-- ==== Sys2Proof/Word.lean ====
section
/-! DEFINITION. The three widths of the machine (`00_scope.md` rule R5): a byte, a 16-bit program address or
word, and a 32-bit flat address. -/
namespace Sys2Proof

/-- A register, a memory location, an operand byte: 8 bits (R5). -/
abbrev Byte := BitVec 8

/-- A program address, the program counter, a memory word: 16 bits (R5). -/
abbrev Addr := BitVec 16

/-- A flat address as a 32-bit pointer forms it (R5, R60). -/
abbrev FlatAddr := BitVec 32

end Sys2Proof
end

