-- ==== Sys2Proof/Machine/Bits.lean ====
section
/-! DEFINITION. Byte order and sign extension (`00_scope.md` rule R9, `20_memory.md` rule R61). -/
namespace Sys2Proof.Machine

/-- `hi:lo` between two bytes: `hi * 256 + lo` (R9). -/
def wordOf (hi lo : Byte) : Addr := hi ++ lo

/-- Bits 7:0 of a word. -/
def loByte (w : Addr) : Byte := w.extractLsb' 0 8

/-- Bits 15:8 of a word. -/
def hiByte (w : Addr) : Byte := w.extractLsb' 8 8

/-- `sext_16(v)` (R9). -/
def sext16 (v : Byte) : Addr := v.signExtend 16

/-- An unsigned byte as a 16-bit value. -/
def zext16 (v : Byte) : Addr := v.zeroExtend 16

/-- `p3:p2:p1:p0`, the 32-bit pointer of an EOM-prefixed instruction (R155). -/
def pointer32 (p3 p2 p1 p0 : Byte) : FlatAddr := p3 ++ p2 ++ p1 ++ p0

end Sys2Proof.Machine
end

