-- ==== Sys2Proof/Syntax.lean ====
section
/-! DEFINITION. The instruction set: one constructor per row of the opcode table (`30_encoding.md` rule R105), in
the order of the first byte, those with operands before those without. A constructor's name is its mnemonic and,
where the mnemonic has several rows, the tag of its operand form (R102). Operands are named as the source's syntax
writes them: `nn` a byte, `nnnn` a word or an address, `rr` and `rrrr` a signed displacement of 8 or 16 bits. -/
namespace Sys2Proof

/-- The 19 operand forms (R102). -/
inductive Format where
  /-- Implied (R141) -/
  | imp
  /-- Accumulator (R143) -/
  | acc
  /-- Immediate (R144) -/
  | imm
  /-- Immediate Word (R145) -/
  | immw
  /-- Base Page (R146) -/
  | bp
  /-- Base Page, X (R147) -/
  | bpx
  /-- Base Page, Y (R148) -/
  | bpy
  /-- Absolute (R149) -/
  | abs
  /-- Absolute, X (R150) -/
  | absx
  /-- Absolute, Y (R151) -/
  | absy
  /-- Indirect, X (R152) -/
  | indx
  /-- Indirect, Y (R153) -/
  | indy
  /-- Indirect, Z (R154, R155) -/
  | indz
  /-- Indirect SP, Y (R156) -/
  | indspy
  /-- Indirect Word (R157) -/
  | absind
  /-- Indirect Word, X (R158) -/
  | absindx
  /-- Relative (R159) -/
  | rel
  /-- Relative Word (R160) -/
  | relw
  /-- Zero Page, Relative (R161) -/
  | bprel
deriving DecidableEq, Repr

/-- The length in bytes of an instruction of each form (R102). -/
def Format.length : Format → Nat
  | .imp => 1
  | .acc => 1
  | .imm => 2
  | .immw => 3
  | .bp => 2
  | .bpx => 2
  | .bpy => 2
  | .abs => 3
  | .absx => 3
  | .absy => 3
  | .indx => 2
  | .indy => 2
  | .indz => 2
  | .indspy => 2
  | .absind => 3
  | .absindx => 3
  | .rel => 2
  | .relw => 3
  | .bprel => 3

/-- The 256 instructions (R2, R105). -/
inductive Instr where
  /-- `$01` INDX `ORA ($nn,X)` (R261) -/
  | oraIndx (nn : Byte)
  /-- `$04` BP `TSB $nn` (R331) -/
  | tsbBp (nn : Byte)
  /-- `$05` BP `ORA $nn` (R261) -/
  | oraBp (nn : Byte)
  /-- `$06` BP `ASL $nn` (R300) -/
  | aslBp (nn : Byte)
  /-- `$07` BP `RMB0 $nn` (R310) -/
  | rmb0 (nn : Byte)
  /-- `$09` IMM `ORA #$nn` (R261) -/
  | oraImm (nn : Byte)
  /-- `$0C` ABS `TSB $nnnn` (R331) -/
  | tsbAbs (nnnn : Addr)
  /-- `$0D` ABS `ORA $nnnn` (R261) -/
  | oraAbs (nnnn : Addr)
  /-- `$0E` ABS `ASL $nnnn` (R300) -/
  | aslAbs (nnnn : Addr)
  /-- `$0F` BPREL `BBR0 $nn,$rr` (R350) -/
  | bbr0 (nn : Byte) (rr : Byte)
  /-- `$10` REL `BPL $rr` (R376) -/
  | bplRel (rr : Byte)
  /-- `$11` INDY `ORA ($nn),Y` (R261) -/
  | oraIndy (nn : Byte)
  /-- `$12` INDZ `ORA ($nn),Z` (R261) -/
  | oraIndz (nn : Byte)
  /-- `$13` RELW `BPL $rrrr` (R376) -/
  | bplRelw (rrrr : Addr)
  /-- `$14` BP `TRB $nn` (R330) -/
  | trbBp (nn : Byte)
  /-- `$15` BPX `ORA $nn,X` (R261) -/
  | oraBpx (nn : Byte)
  /-- `$16` BPX `ASL $nn,X` (R300) -/
  | aslBpx (nn : Byte)
  /-- `$17` BP `RMB1 $nn` (R311) -/
  | rmb1 (nn : Byte)
  /-- `$19` ABSY `ORA $nnnn,Y` (R261) -/
  | oraAbsy (nnnn : Addr)
  /-- `$1C` ABS `TRB $nnnn` (R330) -/
  | trbAbs (nnnn : Addr)
  /-- `$1D` ABSX `ORA $nnnn,X` (R261) -/
  | oraAbsx (nnnn : Addr)
  /-- `$1E` ABSX `ASL $nnnn,X` (R300) -/
  | aslAbsx (nnnn : Addr)
  /-- `$1F` BPREL `BBR1 $nn,$rr` (R351) -/
  | bbr1 (nn : Byte) (rr : Byte)
  /-- `$20` ABS `JSR $nnnn` (R382) -/
  | jsrAbs (nnnn : Addr)
  /-- `$21` INDX `AND ($nn,X)` (R243) -/
  | andIndx (nn : Byte)
  /-- `$22` ABSIND `JSR ($nnnn)` (R382) -/
  | jsrAbsind (nnnn : Addr)
  /-- `$23` ABSINDX `JSR ($nnnn,X)` (R382) -/
  | jsrAbsindx (nnnn : Addr)
  /-- `$24` BP `BIT $nn` (R244) -/
  | bitBp (nn : Byte)
  /-- `$25` BP `AND $nn` (R243) -/
  | andBp (nn : Byte)
  /-- `$26` BP `ROL $nn` (R304) -/
  | rolBp (nn : Byte)
  /-- `$27` BP `RMB2 $nn` (R312) -/
  | rmb2 (nn : Byte)
  /-- `$29` IMM `AND #$nn` (R243) -/
  | andImm (nn : Byte)
  /-- `$2C` ABS `BIT $nnnn` (R244) -/
  | bitAbs (nnnn : Addr)
  /-- `$2D` ABS `AND $nnnn` (R243) -/
  | andAbs (nnnn : Addr)
  /-- `$2E` ABS `ROL $nnnn` (R304) -/
  | rolAbs (nnnn : Addr)
  /-- `$2F` BPREL `BBR2 $nn,$rr` (R352) -/
  | bbr2 (nn : Byte) (rr : Byte)
  /-- `$30` REL `BMI $rr` (R374) -/
  | bmiRel (rr : Byte)
  /-- `$31` INDY `AND ($nn),Y` (R243) -/
  | andIndy (nn : Byte)
  /-- `$32` INDZ `AND ($nn),Z` (R243) -/
  | andIndz (nn : Byte)
  /-- `$33` RELW `BMI $rrrr` (R374) -/
  | bmiRelw (rrrr : Addr)
  /-- `$34` BPX `BIT $nn,X` (R244) -/
  | bitBpx (nn : Byte)
  /-- `$35` BPX `AND $nn,X` (R243) -/
  | andBpx (nn : Byte)
  /-- `$36` BPX `ROL $nn,X` (R304) -/
  | rolBpx (nn : Byte)
  /-- `$37` BP `RMB3 $nn` (R313) -/
  | rmb3 (nn : Byte)
  /-- `$39` ABSY `AND $nnnn,Y` (R243) -/
  | andAbsy (nnnn : Addr)
  /-- `$3C` ABSX `BIT $nnnn,X` (R244) -/
  | bitAbsx (nnnn : Addr)
  /-- `$3D` ABSX `AND $nnnn,X` (R243) -/
  | andAbsx (nnnn : Addr)
  /-- `$3E` ABSX `ROL $nnnn,X` (R304) -/
  | rolAbsx (nnnn : Addr)
  /-- `$3F` BPREL `BBR3 $nn,$rr` (R353) -/
  | bbr3 (nn : Byte) (rr : Byte)
  /-- `$41` INDX `EOR ($nn,X)` (R254) -/
  | eorIndx (nn : Byte)
  /-- `$44` BP `ASR $nn` (R301) -/
  | asrBp (nn : Byte)
  /-- `$45` BP `EOR $nn` (R254) -/
  | eorBp (nn : Byte)
  /-- `$46` BP `LSR $nn` (R303) -/
  | lsrBp (nn : Byte)
  /-- `$47` BP `RMB4 $nn` (R314) -/
  | rmb4 (nn : Byte)
  /-- `$49` IMM `EOR #$nn` (R254) -/
  | eorImm (nn : Byte)
  /-- `$4C` ABS `JMP $nnnn` (R381) -/
  | jmpAbs (nnnn : Addr)
  /-- `$4D` ABS `EOR $nnnn` (R254) -/
  | eorAbs (nnnn : Addr)
  /-- `$4E` ABS `LSR $nnnn` (R303) -/
  | lsrAbs (nnnn : Addr)
  /-- `$4F` BPREL `BBR4 $nn,$rr` (R354) -/
  | bbr4 (nn : Byte) (rr : Byte)
  /-- `$50` REL `BVC $rr` (R379) -/
  | bvcRel (rr : Byte)
  /-- `$51` INDY `EOR ($nn),Y` (R254) -/
  | eorIndy (nn : Byte)
  /-- `$52` INDZ `EOR ($nn),Z` (R254) -/
  | eorIndz (nn : Byte)
  /-- `$53` RELW `BVC $rrrr` (R379) -/
  | bvcRelw (rrrr : Addr)
  /-- `$54` BPX `ASR $nn,X` (R301) -/
  | asrBpx (nn : Byte)
  /-- `$55` BPX `EOR $nn,X` (R254) -/
  | eorBpx (nn : Byte)
  /-- `$56` BPX `LSR $nn,X` (R303) -/
  | lsrBpx (nn : Byte)
  /-- `$57` BP `RMB5 $nn` (R315) -/
  | rmb5 (nn : Byte)
  /-- `$59` ABSY `EOR $nnnn,Y` (R254) -/
  | eorAbsy (nnnn : Addr)
  /-- `$5D` ABSX `EOR $nnnn,X` (R254) -/
  | eorAbsx (nnnn : Addr)
  /-- `$5E` ABSX `LSR $nnnn,X` (R303) -/
  | lsrAbsx (nnnn : Addr)
  /-- `$5F` BPREL `BBR5 $nn,$rr` (R355) -/
  | bbr5 (nn : Byte) (rr : Byte)
  /-- `$61` INDX `ADC ($nn,X)` (R241) -/
  | adcIndx (nn : Byte)
  /-- `$62` IMM `RTS #$nn` (R383) -/
  | rtsImm (nn : Byte)
  /-- `$63` RELW `BSR $rrrr` (R378) -/
  | bsr (rrrr : Addr)
  /-- `$64` BP `STZ $nn` (R207) -/
  | stzBp (nn : Byte)
  /-- `$65` BP `ADC $nn` (R241) -/
  | adcBp (nn : Byte)
  /-- `$66` BP `ROR $nn` (R305) -/
  | rorBp (nn : Byte)
  /-- `$67` BP `RMB6 $nn` (R316) -/
  | rmb6 (nn : Byte)
  /-- `$69` IMM `ADC #$nn` (R241) -/
  | adcImm (nn : Byte)
  /-- `$6C` ABSIND `JMP ($nnnn)` (R381) -/
  | jmpAbsind (nnnn : Addr)
  /-- `$6D` ABS `ADC $nnnn` (R241) -/
  | adcAbs (nnnn : Addr)
  /-- `$6E` ABS `ROR $nnnn` (R305) -/
  | rorAbs (nnnn : Addr)
  /-- `$6F` BPREL `BBR6 $nn,$rr` (R356) -/
  | bbr6 (nn : Byte) (rr : Byte)
  /-- `$70` REL `BVS $rr` (R380) -/
  | bvsRel (rr : Byte)
  /-- `$71` INDY `ADC ($nn),Y` (R241) -/
  | adcIndy (nn : Byte)
  /-- `$72` INDZ `ADC ($nn),Z` (R241) -/
  | adcIndz (nn : Byte)
  /-- `$73` RELW `BVS $rrrr` (R380) -/
  | bvsRelw (rrrr : Addr)
  /-- `$74` BPX `STZ $nn,X` (R207) -/
  | stzBpx (nn : Byte)
  /-- `$75` BPX `ADC $nn,X` (R241) -/
  | adcBpx (nn : Byte)
  /-- `$76` BPX `ROR $nn,X` (R305) -/
  | rorBpx (nn : Byte)
  /-- `$77` BP `RMB7 $nn` (R317) -/
  | rmb7 (nn : Byte)
  /-- `$79` ABSY `ADC $nnnn,Y` (R241) -/
  | adcAbsy (nnnn : Addr)
  /-- `$7C` ABSINDX `JMP ($nnnn,X)` (R381) -/
  | jmpAbsindx (nnnn : Addr)
  /-- `$7D` ABSX `ADC $nnnn,X` (R241) -/
  | adcAbsx (nnnn : Addr)
  /-- `$7E` ABSX `ROR $nnnn,X` (R305) -/
  | rorAbsx (nnnn : Addr)
  /-- `$7F` BPREL `BBR7 $nn,$rr` (R357) -/
  | bbr7 (nn : Byte) (rr : Byte)
  /-- `$80` REL `BRA $rr` (R377) -/
  | braRel (rr : Byte)
  /-- `$81` INDX `STA ($nn,X)` (R204) -/
  | staIndx (nn : Byte)
  /-- `$82` INDSPY `STA ($nn,SP),Y` (R204) -/
  | staIndspy (nn : Byte)
  /-- `$83` RELW `BRA $rrrr` (R377) -/
  | braRelw (rrrr : Addr)
  /-- `$84` BP `STY $nn` (R206) -/
  | styBp (nn : Byte)
  /-- `$85` BP `STA $nn` (R204) -/
  | staBp (nn : Byte)
  /-- `$86` BP `STX $nn` (R205) -/
  | stxBp (nn : Byte)
  /-- `$87` BP `SMB0 $nn` (R320) -/
  | smb0 (nn : Byte)
  /-- `$89` IMM `BIT #$nn` (R244) -/
  | bitImm (nn : Byte)
  /-- `$8B` ABSX `STY $nnnn,X` (R206) -/
  | styAbsx (nnnn : Addr)
  /-- `$8C` ABS `STY $nnnn` (R206) -/
  | styAbs (nnnn : Addr)
  /-- `$8D` ABS `STA $nnnn` (R204) -/
  | staAbs (nnnn : Addr)
  /-- `$8E` ABS `STX $nnnn` (R205) -/
  | stxAbs (nnnn : Addr)
  /-- `$8F` BPREL `BBS0 $nn,$rr` (R360) -/
  | bbs0 (nn : Byte) (rr : Byte)
  /-- `$90` REL `BCC $rr` (R371) -/
  | bccRel (rr : Byte)
  /-- `$91` INDY `STA ($nn),Y` (R204) -/
  | staIndy (nn : Byte)
  /-- `$92` INDZ `STA ($nn),Z` (R204) -/
  | staIndz (nn : Byte)
  /-- `$93` RELW `BCC $rrrr` (R371) -/
  | bccRelw (rrrr : Addr)
  /-- `$94` BPX `STY $nn,X` (R206) -/
  | styBpx (nn : Byte)
  /-- `$95` BPX `STA $nn,X` (R204) -/
  | staBpx (nn : Byte)
  /-- `$96` BPY `STX $nn,Y` (R205) -/
  | stxBpy (nn : Byte)
  /-- `$97` BP `SMB1 $nn` (R321) -/
  | smb1 (nn : Byte)
  /-- `$99` ABSY `STA $nnnn,Y` (R204) -/
  | staAbsy (nnnn : Addr)
  /-- `$9B` ABSY `STX $nnnn,Y` (R205) -/
  | stxAbsy (nnnn : Addr)
  /-- `$9C` ABS `STZ $nnnn` (R207) -/
  | stzAbs (nnnn : Addr)
  /-- `$9D` ABSX `STA $nnnn,X` (R204) -/
  | staAbsx (nnnn : Addr)
  /-- `$9E` ABSX `STZ $nnnn,X` (R207) -/
  | stzAbsx (nnnn : Addr)
  /-- `$9F` BPREL `BBS1 $nn,$rr` (R361) -/
  | bbs1 (nn : Byte) (rr : Byte)
  /-- `$A0` IMM `LDY #$nn` (R202) -/
  | ldyImm (nn : Byte)
  /-- `$A1` INDX `LDA ($nn,X)` (R200) -/
  | ldaIndx (nn : Byte)
  /-- `$A2` IMM `LDX #$nn` (R201) -/
  | ldxImm (nn : Byte)
  /-- `$A3` IMM `LDZ #$nn` (R203) -/
  | ldzImm (nn : Byte)
  /-- `$A4` BP `LDY $nn` (R202) -/
  | ldyBp (nn : Byte)
  /-- `$A5` BP `LDA $nn` (R200) -/
  | ldaBp (nn : Byte)
  /-- `$A6` BP `LDX $nn` (R201) -/
  | ldxBp (nn : Byte)
  /-- `$A7` BP `SMB2 $nn` (R322) -/
  | smb2 (nn : Byte)
  /-- `$A9` IMM `LDA #$nn` (R200) -/
  | ldaImm (nn : Byte)
  /-- `$AB` ABS `LDZ $nnnn` (R203) -/
  | ldzAbs (nnnn : Addr)
  /-- `$AC` ABS `LDY $nnnn` (R202) -/
  | ldyAbs (nnnn : Addr)
  /-- `$AD` ABS `LDA $nnnn` (R200) -/
  | ldaAbs (nnnn : Addr)
  /-- `$AE` ABS `LDX $nnnn` (R201) -/
  | ldxAbs (nnnn : Addr)
  /-- `$AF` BPREL `BBS2 $nn,$rr` (R362) -/
  | bbs2 (nn : Byte) (rr : Byte)
  /-- `$B0` REL `BCS $rr` (R372) -/
  | bcsRel (rr : Byte)
  /-- `$B1` INDY `LDA ($nn),Y` (R200) -/
  | ldaIndy (nn : Byte)
  /-- `$B2` INDZ `LDA ($nn),Z` (R200) -/
  | ldaIndz (nn : Byte)
  /-- `$B3` RELW `BCS $rrrr` (R372) -/
  | bcsRelw (rrrr : Addr)
  /-- `$B4` BPX `LDY $nn,X` (R202) -/
  | ldyBpx (nn : Byte)
  /-- `$B5` BPX `LDA $nn,X` (R200) -/
  | ldaBpx (nn : Byte)
  /-- `$B6` BPY `LDX $nn,Y` (R201) -/
  | ldxBpy (nn : Byte)
  /-- `$B7` BP `SMB3 $nn` (R323) -/
  | smb3 (nn : Byte)
  /-- `$B9` ABSY `LDA $nnnn,Y` (R200) -/
  | ldaAbsy (nnnn : Addr)
  /-- `$BB` ABSX `LDZ $nnnn,X` (R203) -/
  | ldzAbsx (nnnn : Addr)
  /-- `$BC` ABSX `LDY $nnnn,X` (R202) -/
  | ldyAbsx (nnnn : Addr)
  /-- `$BD` ABSX `LDA $nnnn,X` (R200) -/
  | ldaAbsx (nnnn : Addr)
  /-- `$BE` ABSY `LDX $nnnn,Y` (R201) -/
  | ldxAbsy (nnnn : Addr)
  /-- `$BF` BPREL `BBS3 $nn,$rr` (R363) -/
  | bbs3 (nn : Byte) (rr : Byte)
  /-- `$C0` IMM `CPY #$nn` (R247) -/
  | cpyImm (nn : Byte)
  /-- `$C1` INDX `CMP ($nn,X)` (R245) -/
  | cmpIndx (nn : Byte)
  /-- `$C2` IMM `CPZ #$nn` (R248) -/
  | cpzImm (nn : Byte)
  /-- `$C3` BP `DEW $nn` (R250) -/
  | dew (nn : Byte)
  /-- `$C4` BP `CPY $nn` (R247) -/
  | cpyBp (nn : Byte)
  /-- `$C5` BP `CMP $nn` (R245) -/
  | cmpBp (nn : Byte)
  /-- `$C6` BP `DEC $nn` (R249) -/
  | decBp (nn : Byte)
  /-- `$C7` BP `SMB4 $nn` (R324) -/
  | smb4 (nn : Byte)
  /-- `$C9` IMM `CMP #$nn` (R245) -/
  | cmpImm (nn : Byte)
  /-- `$CB` ABS `ASW $nnnn` (R302) -/
  | asw (nnnn : Addr)
  /-- `$CC` ABS `CPY $nnnn` (R247) -/
  | cpyAbs (nnnn : Addr)
  /-- `$CD` ABS `CMP $nnnn` (R245) -/
  | cmpAbs (nnnn : Addr)
  /-- `$CE` ABS `DEC $nnnn` (R249) -/
  | decAbs (nnnn : Addr)
  /-- `$CF` BPREL `BBS4 $nn,$rr` (R364) -/
  | bbs4 (nn : Byte) (rr : Byte)
  /-- `$D0` REL `BNE $rr` (R375) -/
  | bneRel (rr : Byte)
  /-- `$D1` INDY `CMP ($nn),Y` (R245) -/
  | cmpIndy (nn : Byte)
  /-- `$D2` INDZ `CMP ($nn),Z` (R245) -/
  | cmpIndz (nn : Byte)
  /-- `$D3` RELW `BNE $rrrr` (R375) -/
  | bneRelw (rrrr : Addr)
  /-- `$D4` BP `CPZ $nn` (R248) -/
  | cpzBp (nn : Byte)
  /-- `$D5` BPX `CMP $nn,X` (R245) -/
  | cmpBpx (nn : Byte)
  /-- `$D6` BPX `DEC $nn,X` (R249) -/
  | decBpx (nn : Byte)
  /-- `$D7` BP `SMB5 $nn` (R325) -/
  | smb5 (nn : Byte)
  /-- `$D9` ABSY `CMP $nnnn,Y` (R245) -/
  | cmpAbsy (nnnn : Addr)
  /-- `$DC` ABS `CPZ $nnnn` (R248) -/
  | cpzAbs (nnnn : Addr)
  /-- `$DD` ABSX `CMP $nnnn,X` (R245) -/
  | cmpAbsx (nnnn : Addr)
  /-- `$DE` ABSX `DEC $nnnn,X` (R249) -/
  | decAbsx (nnnn : Addr)
  /-- `$DF` BPREL `BBS5 $nn,$rr` (R365) -/
  | bbs5 (nn : Byte) (rr : Byte)
  /-- `$E0` IMM `CPX #$nn` (R246) -/
  | cpxImm (nn : Byte)
  /-- `$E1` INDX `SBC ($nn,X)` (R280) -/
  | sbcIndx (nn : Byte)
  /-- `$E2` INDSPY `LDA ($nn,SP),Y` (R200) -/
  | ldaIndspy (nn : Byte)
  /-- `$E3` BP `INW $nn` (R256) -/
  | inw (nn : Byte)
  /-- `$E4` BP `CPX $nn` (R246) -/
  | cpxBp (nn : Byte)
  /-- `$E5` BP `SBC $nn` (R280) -/
  | sbcBp (nn : Byte)
  /-- `$E6` BP `INC $nn` (R255) -/
  | incBp (nn : Byte)
  /-- `$E7` BP `SMB6 $nn` (R326) -/
  | smb6 (nn : Byte)
  /-- `$E9` IMM `SBC #$nn` (R280) -/
  | sbcImm (nn : Byte)
  /-- `$EB` ABS `ROW $nnnn` (R306) -/
  | row (nnnn : Addr)
  /-- `$EC` ABS `CPX $nnnn` (R246) -/
  | cpxAbs (nnnn : Addr)
  /-- `$ED` ABS `SBC $nnnn` (R280) -/
  | sbcAbs (nnnn : Addr)
  /-- `$EE` ABS `INC $nnnn` (R255) -/
  | incAbs (nnnn : Addr)
  /-- `$EF` BPREL `BBS6 $nn,$rr` (R366) -/
  | bbs6 (nn : Byte) (rr : Byte)
  /-- `$F0` REL `BEQ $rr` (R373) -/
  | beqRel (rr : Byte)
  /-- `$F1` INDY `SBC ($nn),Y` (R280) -/
  | sbcIndy (nn : Byte)
  /-- `$F2` INDZ `SBC ($nn),Z` (R280) -/
  | sbcIndz (nn : Byte)
  /-- `$F3` RELW `BEQ $rrrr` (R373) -/
  | beqRelw (rrrr : Addr)
  /-- `$F4` IMMW `PHW #$nnnn` (R422) -/
  | phwImmw (nnnn : Addr)
  /-- `$F5` BPX `SBC $nn,X` (R280) -/
  | sbcBpx (nn : Byte)
  /-- `$F6` BPX `INC $nn,X` (R255) -/
  | incBpx (nn : Byte)
  /-- `$F7` BP `SMB7 $nn` (R327) -/
  | smb7 (nn : Byte)
  /-- `$F9` ABSY `SBC $nnnn,Y` (R280) -/
  | sbcAbsy (nnnn : Addr)
  /-- `$FC` ABS `PHW $nnnn` (R422) -/
  | phwAbs (nnnn : Addr)
  /-- `$FD` ABSX `SBC $nnnn,X` (R280) -/
  | sbcAbsx (nnnn : Addr)
  /-- `$FE` ABSX `INC $nnnn,X` (R255) -/
  | incAbsx (nnnn : Addr)
  /-- `$FF` BPREL `BBS7 $nn,$rr` (R367) -/
  | bbs7 (nn : Byte) (rr : Byte)
  /-- `$00` IMP `BRK` (R440) -/
  | brk
  /-- `$02` IMP `CLE` (R433) -/
  | cle
  /-- `$03` IMP `SEE` (R438) -/
  | see
  /-- `$08` IMP `PHP` (R421) -/
  | php
  /-- `$0A` ACC `ASL A` (R300) -/
  | aslAcc
  /-- `$0B` IMP `TSY` (R214) -/
  | tsy
  /-- `$18` IMP `CLC` (R431) -/
  | clc
  /-- `$1A` ACC `INC A` (R255) -/
  | incAcc
  /-- `$1B` IMP `INZ` (R259) -/
  | inz
  /-- `$28` IMP `PLP` (R427) -/
  | plp
  /-- `$2A` ACC `ROL A` (R304) -/
  | rolAcc
  /-- `$2B` IMP `TYS` (R218) -/
  | tys
  /-- `$38` IMP `SEC` (R436) -/
  | sec
  /-- `$3A` ACC `DEC A` (R249) -/
  | decAcc
  /-- `$3B` IMP `DEZ` (R253) -/
  | dez
  /-- `$40` IMP `RTI` (R441) -/
  | rti
  /-- `$42` ACC `NEG A` (R260) -/
  | neg
  /-- `$43` ACC `ASR A` (R301) -/
  | asrAcc
  /-- `$48` IMP `PHA` (R420) -/
  | pha
  /-- `$4A` ACC `LSR A` (R303) -/
  | lsrAcc
  /-- `$4B` IMP `TAZ` (R211) -/
  | taz
  /-- `$58` IMP `CLI` (R434) -/
  | cli
  /-- `$5A` IMP `PHY` (R424) -/
  | phy
  /-- `$5B` IMP `TAB` (R208) -/
  | tab
  /-- `$5C` IMP `MAP` (R446) -/
  | map
  /-- `$60` IMP `RTS` (R383) -/
  | rts
  /-- `$68` IMP `PLA` (R426) -/
  | pla
  /-- `$6A` ACC `ROR A` (R305) -/
  | rorAcc
  /-- `$6B` IMP `TZA` (R219) -/
  | tza
  /-- `$78` IMP `SEI` (R439) -/
  | sei
  /-- `$7A` IMP `PLY` (R429) -/
  | ply
  /-- `$7B` IMP `TBA` (R212) -/
  | tba
  /-- `$88` IMP `DEY` (R252) -/
  | dey
  /-- `$8A` IMP `TXA` (R215) -/
  | txa
  /-- `$98` IMP `TYA` (R217) -/
  | tya
  /-- `$9A` IMP `TXS` (R216) -/
  | txs
  /-- `$A8` IMP `TAY` (R210) -/
  | tay
  /-- `$AA` IMP `TAX` (R209) -/
  | tax
  /-- `$B8` IMP `CLV` (R435) -/
  | clv
  /-- `$BA` IMP `TSX` (R213) -/
  | tsx
  /-- `$C8` IMP `INY` (R258) -/
  | iny
  /-- `$CA` IMP `DEX` (R251) -/
  | dex
  /-- `$D8` IMP `CLD` (R432) -/
  | cld
  /-- `$DA` IMP `PHX` (R423) -/
  | phx
  /-- `$DB` IMP `PHZ` (R425) -/
  | phz
  /-- `$E8` IMP `INX` (R257) -/
  | inx
  /-- `$EA` IMP `EOM` (R447) -/
  | eom
  /-- `$F8` IMP `SED` (R437) -/
  | sed
  /-- `$FA` IMP `PLX` (R428) -/
  | plx
  /-- `$FB` IMP `PLZ` (R430) -/
  | plz
deriving DecidableEq, Repr

/-- The operand form of each instruction (R105). -/
def Instr.format : Instr → Format
  | .oraIndx _ => .indx
  | .tsbBp _ => .bp
  | .oraBp _ => .bp
  | .aslBp _ => .bp
  | .rmb0 _ => .bp
  | .oraImm _ => .imm
  | .tsbAbs _ => .abs
  | .oraAbs _ => .abs
  | .aslAbs _ => .abs
  | .bbr0 _ _ => .bprel
  | .bplRel _ => .rel
  | .oraIndy _ => .indy
  | .oraIndz _ => .indz
  | .bplRelw _ => .relw
  | .trbBp _ => .bp
  | .oraBpx _ => .bpx
  | .aslBpx _ => .bpx
  | .rmb1 _ => .bp
  | .oraAbsy _ => .absy
  | .trbAbs _ => .abs
  | .oraAbsx _ => .absx
  | .aslAbsx _ => .absx
  | .bbr1 _ _ => .bprel
  | .jsrAbs _ => .abs
  | .andIndx _ => .indx
  | .jsrAbsind _ => .absind
  | .jsrAbsindx _ => .absindx
  | .bitBp _ => .bp
  | .andBp _ => .bp
  | .rolBp _ => .bp
  | .rmb2 _ => .bp
  | .andImm _ => .imm
  | .bitAbs _ => .abs
  | .andAbs _ => .abs
  | .rolAbs _ => .abs
  | .bbr2 _ _ => .bprel
  | .bmiRel _ => .rel
  | .andIndy _ => .indy
  | .andIndz _ => .indz
  | .bmiRelw _ => .relw
  | .bitBpx _ => .bpx
  | .andBpx _ => .bpx
  | .rolBpx _ => .bpx
  | .rmb3 _ => .bp
  | .andAbsy _ => .absy
  | .bitAbsx _ => .absx
  | .andAbsx _ => .absx
  | .rolAbsx _ => .absx
  | .bbr3 _ _ => .bprel
  | .eorIndx _ => .indx
  | .asrBp _ => .bp
  | .eorBp _ => .bp
  | .lsrBp _ => .bp
  | .rmb4 _ => .bp
  | .eorImm _ => .imm
  | .jmpAbs _ => .abs
  | .eorAbs _ => .abs
  | .lsrAbs _ => .abs
  | .bbr4 _ _ => .bprel
  | .bvcRel _ => .rel
  | .eorIndy _ => .indy
  | .eorIndz _ => .indz
  | .bvcRelw _ => .relw
  | .asrBpx _ => .bpx
  | .eorBpx _ => .bpx
  | .lsrBpx _ => .bpx
  | .rmb5 _ => .bp
  | .eorAbsy _ => .absy
  | .eorAbsx _ => .absx
  | .lsrAbsx _ => .absx
  | .bbr5 _ _ => .bprel
  | .adcIndx _ => .indx
  | .rtsImm _ => .imm
  | .bsr _ => .relw
  | .stzBp _ => .bp
  | .adcBp _ => .bp
  | .rorBp _ => .bp
  | .rmb6 _ => .bp
  | .adcImm _ => .imm
  | .jmpAbsind _ => .absind
  | .adcAbs _ => .abs
  | .rorAbs _ => .abs
  | .bbr6 _ _ => .bprel
  | .bvsRel _ => .rel
  | .adcIndy _ => .indy
  | .adcIndz _ => .indz
  | .bvsRelw _ => .relw
  | .stzBpx _ => .bpx
  | .adcBpx _ => .bpx
  | .rorBpx _ => .bpx
  | .rmb7 _ => .bp
  | .adcAbsy _ => .absy
  | .jmpAbsindx _ => .absindx
  | .adcAbsx _ => .absx
  | .rorAbsx _ => .absx
  | .bbr7 _ _ => .bprel
  | .braRel _ => .rel
  | .staIndx _ => .indx
  | .staIndspy _ => .indspy
  | .braRelw _ => .relw
  | .styBp _ => .bp
  | .staBp _ => .bp
  | .stxBp _ => .bp
  | .smb0 _ => .bp
  | .bitImm _ => .imm
  | .styAbsx _ => .absx
  | .styAbs _ => .abs
  | .staAbs _ => .abs
  | .stxAbs _ => .abs
  | .bbs0 _ _ => .bprel
  | .bccRel _ => .rel
  | .staIndy _ => .indy
  | .staIndz _ => .indz
  | .bccRelw _ => .relw
  | .styBpx _ => .bpx
  | .staBpx _ => .bpx
  | .stxBpy _ => .bpy
  | .smb1 _ => .bp
  | .staAbsy _ => .absy
  | .stxAbsy _ => .absy
  | .stzAbs _ => .abs
  | .staAbsx _ => .absx
  | .stzAbsx _ => .absx
  | .bbs1 _ _ => .bprel
  | .ldyImm _ => .imm
  | .ldaIndx _ => .indx
  | .ldxImm _ => .imm
  | .ldzImm _ => .imm
  | .ldyBp _ => .bp
  | .ldaBp _ => .bp
  | .ldxBp _ => .bp
  | .smb2 _ => .bp
  | .ldaImm _ => .imm
  | .ldzAbs _ => .abs
  | .ldyAbs _ => .abs
  | .ldaAbs _ => .abs
  | .ldxAbs _ => .abs
  | .bbs2 _ _ => .bprel
  | .bcsRel _ => .rel
  | .ldaIndy _ => .indy
  | .ldaIndz _ => .indz
  | .bcsRelw _ => .relw
  | .ldyBpx _ => .bpx
  | .ldaBpx _ => .bpx
  | .ldxBpy _ => .bpy
  | .smb3 _ => .bp
  | .ldaAbsy _ => .absy
  | .ldzAbsx _ => .absx
  | .ldyAbsx _ => .absx
  | .ldaAbsx _ => .absx
  | .ldxAbsy _ => .absy
  | .bbs3 _ _ => .bprel
  | .cpyImm _ => .imm
  | .cmpIndx _ => .indx
  | .cpzImm _ => .imm
  | .dew _ => .bp
  | .cpyBp _ => .bp
  | .cmpBp _ => .bp
  | .decBp _ => .bp
  | .smb4 _ => .bp
  | .cmpImm _ => .imm
  | .asw _ => .abs
  | .cpyAbs _ => .abs
  | .cmpAbs _ => .abs
  | .decAbs _ => .abs
  | .bbs4 _ _ => .bprel
  | .bneRel _ => .rel
  | .cmpIndy _ => .indy
  | .cmpIndz _ => .indz
  | .bneRelw _ => .relw
  | .cpzBp _ => .bp
  | .cmpBpx _ => .bpx
  | .decBpx _ => .bpx
  | .smb5 _ => .bp
  | .cmpAbsy _ => .absy
  | .cpzAbs _ => .abs
  | .cmpAbsx _ => .absx
  | .decAbsx _ => .absx
  | .bbs5 _ _ => .bprel
  | .cpxImm _ => .imm
  | .sbcIndx _ => .indx
  | .ldaIndspy _ => .indspy
  | .inw _ => .bp
  | .cpxBp _ => .bp
  | .sbcBp _ => .bp
  | .incBp _ => .bp
  | .smb6 _ => .bp
  | .sbcImm _ => .imm
  | .row _ => .abs
  | .cpxAbs _ => .abs
  | .sbcAbs _ => .abs
  | .incAbs _ => .abs
  | .bbs6 _ _ => .bprel
  | .beqRel _ => .rel
  | .sbcIndy _ => .indy
  | .sbcIndz _ => .indz
  | .beqRelw _ => .relw
  | .phwImmw _ => .immw
  | .sbcBpx _ => .bpx
  | .incBpx _ => .bpx
  | .smb7 _ => .bp
  | .sbcAbsy _ => .absy
  | .phwAbs _ => .abs
  | .sbcAbsx _ => .absx
  | .incAbsx _ => .absx
  | .bbs7 _ _ => .bprel
  | .brk => .imp
  | .cle => .imp
  | .see => .imp
  | .php => .imp
  | .aslAcc => .acc
  | .tsy => .imp
  | .clc => .imp
  | .incAcc => .acc
  | .inz => .imp
  | .plp => .imp
  | .rolAcc => .acc
  | .tys => .imp
  | .sec => .imp
  | .decAcc => .acc
  | .dez => .imp
  | .rti => .imp
  | .neg => .acc
  | .asrAcc => .acc
  | .pha => .imp
  | .lsrAcc => .acc
  | .taz => .imp
  | .cli => .imp
  | .phy => .imp
  | .tab => .imp
  | .map => .imp
  | .rts => .imp
  | .pla => .imp
  | .rorAcc => .acc
  | .tza => .imp
  | .sei => .imp
  | .ply => .imp
  | .tba => .imp
  | .dey => .imp
  | .txa => .imp
  | .tya => .imp
  | .txs => .imp
  | .tay => .imp
  | .tax => .imp
  | .clv => .imp
  | .tsx => .imp
  | .iny => .imp
  | .dex => .imp
  | .cld => .imp
  | .phx => .imp
  | .phz => .imp
  | .inx => .imp
  | .eom => .imp
  | .sed => .imp
  | .plx => .imp
  | .plz => .imp

/-- The length in bytes of an instruction (R100). -/
def Instr.length (i : Instr) : Nat := i.format.length

end Sys2Proof
end

