-- ==== Sys2Proof/Decode.lean ====
section
/-! DEFINITION. The decoder and the encoder (`30_encoding.md`). The decoder is the opcode map of rule R105, looked
up by the first byte, and the operand assembly of rule R104. The encoder is written apart from it, from the
per-instruction encodings. -/
namespace Sys2Proof

open Sys2Proof.Machine (wordOf loByte hiByte)

/-- Why a string of bytes is not the start of an instruction. -/
inductive DecodeError where
  /-- There is no first byte. -/
  | noOpcode
  /-- The first byte has no row. Never the answer: all 256 values are assigned (R107). -/
  | unassigned
  /-- The string ends before the operand bytes that the first byte asks for (R101). -/
  | missingOperand
deriving DecidableEq, Repr

/-- Row `$0x` of the map (R105): from the operand bytes `op1`, `op2` to the instruction. -/
def opcodeRow0 : List (Byte → Byte → Instr) :=
  [ fun _ _ => .brk,
    fun p _ => .oraIndx p,
    fun _ _ => .cle,
    fun _ _ => .see,
    fun p _ => .tsbBp p,
    fun p _ => .oraBp p,
    fun p _ => .aslBp p,
    fun p _ => .rmb0 p,
    fun _ _ => .php,
    fun p _ => .oraImm p,
    fun _ _ => .aslAcc,
    fun _ _ => .tsy,
    fun p q => .tsbAbs (wordOf q p),
    fun p q => .oraAbs (wordOf q p),
    fun p q => .aslAbs (wordOf q p),
    fun p q => .bbr0 p q ]

/-- Row `$1x` of the map (R105): from the operand bytes `op1`, `op2` to the instruction. -/
def opcodeRow1 : List (Byte → Byte → Instr) :=
  [ fun p _ => .bplRel p,
    fun p _ => .oraIndy p,
    fun p _ => .oraIndz p,
    fun p q => .bplRelw (wordOf q p),
    fun p _ => .trbBp p,
    fun p _ => .oraBpx p,
    fun p _ => .aslBpx p,
    fun p _ => .rmb1 p,
    fun _ _ => .clc,
    fun p q => .oraAbsy (wordOf q p),
    fun _ _ => .incAcc,
    fun _ _ => .inz,
    fun p q => .trbAbs (wordOf q p),
    fun p q => .oraAbsx (wordOf q p),
    fun p q => .aslAbsx (wordOf q p),
    fun p q => .bbr1 p q ]

/-- Row `$2x` of the map (R105): from the operand bytes `op1`, `op2` to the instruction. -/
def opcodeRow2 : List (Byte → Byte → Instr) :=
  [ fun p q => .jsrAbs (wordOf q p),
    fun p _ => .andIndx p,
    fun p q => .jsrAbsind (wordOf q p),
    fun p q => .jsrAbsindx (wordOf q p),
    fun p _ => .bitBp p,
    fun p _ => .andBp p,
    fun p _ => .rolBp p,
    fun p _ => .rmb2 p,
    fun _ _ => .plp,
    fun p _ => .andImm p,
    fun _ _ => .rolAcc,
    fun _ _ => .tys,
    fun p q => .bitAbs (wordOf q p),
    fun p q => .andAbs (wordOf q p),
    fun p q => .rolAbs (wordOf q p),
    fun p q => .bbr2 p q ]

/-- Row `$3x` of the map (R105): from the operand bytes `op1`, `op2` to the instruction. -/
def opcodeRow3 : List (Byte → Byte → Instr) :=
  [ fun p _ => .bmiRel p,
    fun p _ => .andIndy p,
    fun p _ => .andIndz p,
    fun p q => .bmiRelw (wordOf q p),
    fun p _ => .bitBpx p,
    fun p _ => .andBpx p,
    fun p _ => .rolBpx p,
    fun p _ => .rmb3 p,
    fun _ _ => .sec,
    fun p q => .andAbsy (wordOf q p),
    fun _ _ => .decAcc,
    fun _ _ => .dez,
    fun p q => .bitAbsx (wordOf q p),
    fun p q => .andAbsx (wordOf q p),
    fun p q => .rolAbsx (wordOf q p),
    fun p q => .bbr3 p q ]

/-- Row `$4x` of the map (R105): from the operand bytes `op1`, `op2` to the instruction. -/
def opcodeRow4 : List (Byte → Byte → Instr) :=
  [ fun _ _ => .rti,
    fun p _ => .eorIndx p,
    fun _ _ => .neg,
    fun _ _ => .asrAcc,
    fun p _ => .asrBp p,
    fun p _ => .eorBp p,
    fun p _ => .lsrBp p,
    fun p _ => .rmb4 p,
    fun _ _ => .pha,
    fun p _ => .eorImm p,
    fun _ _ => .lsrAcc,
    fun _ _ => .taz,
    fun p q => .jmpAbs (wordOf q p),
    fun p q => .eorAbs (wordOf q p),
    fun p q => .lsrAbs (wordOf q p),
    fun p q => .bbr4 p q ]

/-- Row `$5x` of the map (R105): from the operand bytes `op1`, `op2` to the instruction. -/
def opcodeRow5 : List (Byte → Byte → Instr) :=
  [ fun p _ => .bvcRel p,
    fun p _ => .eorIndy p,
    fun p _ => .eorIndz p,
    fun p q => .bvcRelw (wordOf q p),
    fun p _ => .asrBpx p,
    fun p _ => .eorBpx p,
    fun p _ => .lsrBpx p,
    fun p _ => .rmb5 p,
    fun _ _ => .cli,
    fun p q => .eorAbsy (wordOf q p),
    fun _ _ => .phy,
    fun _ _ => .tab,
    fun _ _ => .map,
    fun p q => .eorAbsx (wordOf q p),
    fun p q => .lsrAbsx (wordOf q p),
    fun p q => .bbr5 p q ]

/-- Row `$6x` of the map (R105): from the operand bytes `op1`, `op2` to the instruction. -/
def opcodeRow6 : List (Byte → Byte → Instr) :=
  [ fun _ _ => .rts,
    fun p _ => .adcIndx p,
    fun p _ => .rtsImm p,
    fun p q => .bsr (wordOf q p),
    fun p _ => .stzBp p,
    fun p _ => .adcBp p,
    fun p _ => .rorBp p,
    fun p _ => .rmb6 p,
    fun _ _ => .pla,
    fun p _ => .adcImm p,
    fun _ _ => .rorAcc,
    fun _ _ => .tza,
    fun p q => .jmpAbsind (wordOf q p),
    fun p q => .adcAbs (wordOf q p),
    fun p q => .rorAbs (wordOf q p),
    fun p q => .bbr6 p q ]

/-- Row `$7x` of the map (R105): from the operand bytes `op1`, `op2` to the instruction. -/
def opcodeRow7 : List (Byte → Byte → Instr) :=
  [ fun p _ => .bvsRel p,
    fun p _ => .adcIndy p,
    fun p _ => .adcIndz p,
    fun p q => .bvsRelw (wordOf q p),
    fun p _ => .stzBpx p,
    fun p _ => .adcBpx p,
    fun p _ => .rorBpx p,
    fun p _ => .rmb7 p,
    fun _ _ => .sei,
    fun p q => .adcAbsy (wordOf q p),
    fun _ _ => .ply,
    fun _ _ => .tba,
    fun p q => .jmpAbsindx (wordOf q p),
    fun p q => .adcAbsx (wordOf q p),
    fun p q => .rorAbsx (wordOf q p),
    fun p q => .bbr7 p q ]

/-- Row `$8x` of the map (R105): from the operand bytes `op1`, `op2` to the instruction. -/
def opcodeRow8 : List (Byte → Byte → Instr) :=
  [ fun p _ => .braRel p,
    fun p _ => .staIndx p,
    fun p _ => .staIndspy p,
    fun p q => .braRelw (wordOf q p),
    fun p _ => .styBp p,
    fun p _ => .staBp p,
    fun p _ => .stxBp p,
    fun p _ => .smb0 p,
    fun _ _ => .dey,
    fun p _ => .bitImm p,
    fun _ _ => .txa,
    fun p q => .styAbsx (wordOf q p),
    fun p q => .styAbs (wordOf q p),
    fun p q => .staAbs (wordOf q p),
    fun p q => .stxAbs (wordOf q p),
    fun p q => .bbs0 p q ]

/-- Row `$9x` of the map (R105): from the operand bytes `op1`, `op2` to the instruction. -/
def opcodeRow9 : List (Byte → Byte → Instr) :=
  [ fun p _ => .bccRel p,
    fun p _ => .staIndy p,
    fun p _ => .staIndz p,
    fun p q => .bccRelw (wordOf q p),
    fun p _ => .styBpx p,
    fun p _ => .staBpx p,
    fun p _ => .stxBpy p,
    fun p _ => .smb1 p,
    fun _ _ => .tya,
    fun p q => .staAbsy (wordOf q p),
    fun _ _ => .txs,
    fun p q => .stxAbsy (wordOf q p),
    fun p q => .stzAbs (wordOf q p),
    fun p q => .staAbsx (wordOf q p),
    fun p q => .stzAbsx (wordOf q p),
    fun p q => .bbs1 p q ]

/-- Row `$Ax` of the map (R105): from the operand bytes `op1`, `op2` to the instruction. -/
def opcodeRowA : List (Byte → Byte → Instr) :=
  [ fun p _ => .ldyImm p,
    fun p _ => .ldaIndx p,
    fun p _ => .ldxImm p,
    fun p _ => .ldzImm p,
    fun p _ => .ldyBp p,
    fun p _ => .ldaBp p,
    fun p _ => .ldxBp p,
    fun p _ => .smb2 p,
    fun _ _ => .tay,
    fun p _ => .ldaImm p,
    fun _ _ => .tax,
    fun p q => .ldzAbs (wordOf q p),
    fun p q => .ldyAbs (wordOf q p),
    fun p q => .ldaAbs (wordOf q p),
    fun p q => .ldxAbs (wordOf q p),
    fun p q => .bbs2 p q ]

/-- Row `$Bx` of the map (R105): from the operand bytes `op1`, `op2` to the instruction. -/
def opcodeRowB : List (Byte → Byte → Instr) :=
  [ fun p _ => .bcsRel p,
    fun p _ => .ldaIndy p,
    fun p _ => .ldaIndz p,
    fun p q => .bcsRelw (wordOf q p),
    fun p _ => .ldyBpx p,
    fun p _ => .ldaBpx p,
    fun p _ => .ldxBpy p,
    fun p _ => .smb3 p,
    fun _ _ => .clv,
    fun p q => .ldaAbsy (wordOf q p),
    fun _ _ => .tsx,
    fun p q => .ldzAbsx (wordOf q p),
    fun p q => .ldyAbsx (wordOf q p),
    fun p q => .ldaAbsx (wordOf q p),
    fun p q => .ldxAbsy (wordOf q p),
    fun p q => .bbs3 p q ]

/-- Row `$Cx` of the map (R105): from the operand bytes `op1`, `op2` to the instruction. -/
def opcodeRowC : List (Byte → Byte → Instr) :=
  [ fun p _ => .cpyImm p,
    fun p _ => .cmpIndx p,
    fun p _ => .cpzImm p,
    fun p _ => .dew p,
    fun p _ => .cpyBp p,
    fun p _ => .cmpBp p,
    fun p _ => .decBp p,
    fun p _ => .smb4 p,
    fun _ _ => .iny,
    fun p _ => .cmpImm p,
    fun _ _ => .dex,
    fun p q => .asw (wordOf q p),
    fun p q => .cpyAbs (wordOf q p),
    fun p q => .cmpAbs (wordOf q p),
    fun p q => .decAbs (wordOf q p),
    fun p q => .bbs4 p q ]

/-- Row `$Dx` of the map (R105): from the operand bytes `op1`, `op2` to the instruction. -/
def opcodeRowD : List (Byte → Byte → Instr) :=
  [ fun p _ => .bneRel p,
    fun p _ => .cmpIndy p,
    fun p _ => .cmpIndz p,
    fun p q => .bneRelw (wordOf q p),
    fun p _ => .cpzBp p,
    fun p _ => .cmpBpx p,
    fun p _ => .decBpx p,
    fun p _ => .smb5 p,
    fun _ _ => .cld,
    fun p q => .cmpAbsy (wordOf q p),
    fun _ _ => .phx,
    fun _ _ => .phz,
    fun p q => .cpzAbs (wordOf q p),
    fun p q => .cmpAbsx (wordOf q p),
    fun p q => .decAbsx (wordOf q p),
    fun p q => .bbs5 p q ]

/-- Row `$Ex` of the map (R105): from the operand bytes `op1`, `op2` to the instruction. -/
def opcodeRowE : List (Byte → Byte → Instr) :=
  [ fun p _ => .cpxImm p,
    fun p _ => .sbcIndx p,
    fun p _ => .ldaIndspy p,
    fun p _ => .inw p,
    fun p _ => .cpxBp p,
    fun p _ => .sbcBp p,
    fun p _ => .incBp p,
    fun p _ => .smb6 p,
    fun _ _ => .inx,
    fun p _ => .sbcImm p,
    fun _ _ => .eom,
    fun p q => .row (wordOf q p),
    fun p q => .cpxAbs (wordOf q p),
    fun p q => .sbcAbs (wordOf q p),
    fun p q => .incAbs (wordOf q p),
    fun p q => .bbs6 p q ]

/-- Row `$Fx` of the map (R105): from the operand bytes `op1`, `op2` to the instruction. -/
def opcodeRowF : List (Byte → Byte → Instr) :=
  [ fun p _ => .beqRel p,
    fun p _ => .sbcIndy p,
    fun p _ => .sbcIndz p,
    fun p q => .beqRelw (wordOf q p),
    fun p q => .phwImmw (wordOf q p),
    fun p _ => .sbcBpx p,
    fun p _ => .incBpx p,
    fun p _ => .smb7 p,
    fun _ _ => .sed,
    fun p q => .sbcAbsy (wordOf q p),
    fun _ _ => .plx,
    fun _ _ => .plz,
    fun p q => .phwAbs (wordOf q p),
    fun p q => .sbcAbsx (wordOf q p),
    fun p q => .incAbsx (wordOf q p),
    fun p q => .bbs7 p q ]

/-- The map of all 256 first bytes (R105). -/
def opcodeMap : List (Byte → Byte → Instr) :=
  opcodeRow0 ++ opcodeRow1 ++ opcodeRow2 ++ opcodeRow3 ++ opcodeRow4 ++ opcodeRow5 ++ opcodeRow6 ++ opcodeRow7 ++
  opcodeRow8 ++ opcodeRow9 ++ opcodeRowA ++ opcodeRowB ++ opcodeRowC ++ opcodeRowD ++ opcodeRowE ++ opcodeRowF

/-- The length of the instruction that a first byte selects (R100, R103). -/
def lengthOfOpcode (op : Byte) : Nat :=
  match opcodeMap[op.toNat]? with
  | none => 1
  | some mk => (mk 0 0).length

/-- Reads one instruction from the front of a string of bytes, and answers the bytes after it (R100 to R105). -/
def decode (code : List Byte) : Except DecodeError (Instr × List Byte) :=
  match code with
  | [] => .error .noOpcode
  | op :: rest =>
    match opcodeMap[op.toNat]? with
    | none => .error .unassigned
    | some mk =>
      let operands := (mk 0 0).length - 1
      if rest.length < operands then .error .missingOperand
      else .ok (mk (rest.getD 0 0) (rest.getD 1 0), rest.drop operands)

/-- Byte `k` of an instruction numbered as the opcode table numbers its bits: the first byte is the least
significant. -/
def tableByte (nbits w k : Nat) : Byte := BitVec.ofNat 8 (w % 2 ^ nbits / 256 ^ k)

/-- The three bytes that hold an instruction of the opcode table, in ascending address order (R61). -/
def tableBytes (nbits w : Nat) : List Byte := [tableByte nbits w 0, tableByte nbits w 1, tableByte nbits w 2]

/-- The instruction the decoder reads from an instruction word of the opcode table. -/
def decodeTableWord (nbits w : Nat) : Option Instr :=
  match decode (tableBytes nbits w) with
  | .ok (i, _) => some i
  | .error _ => none

/-- The first byte of each instruction, from its `Encodings` line (files `41_` to `45_`). -/
def Instr.opcode : Instr → Byte
  | .adcIndx _ => 0x61
  | .adcBp _ => 0x65
  | .adcImm _ => 0x69
  | .adcAbs _ => 0x6D
  | .adcIndy _ => 0x71
  | .adcIndz _ => 0x72
  | .adcBpx _ => 0x75
  | .adcAbsy _ => 0x79
  | .adcAbsx _ => 0x7D
  | .andIndx _ => 0x21
  | .andBp _ => 0x25
  | .andImm _ => 0x29
  | .andAbs _ => 0x2D
  | .andIndy _ => 0x31
  | .andIndz _ => 0x32
  | .andBpx _ => 0x35
  | .andAbsy _ => 0x39
  | .andAbsx _ => 0x3D
  | .aslBp _ => 0x06
  | .aslAcc => 0x0A
  | .aslAbs _ => 0x0E
  | .aslBpx _ => 0x16
  | .aslAbsx _ => 0x1E
  | .asrAcc => 0x43
  | .asrBp _ => 0x44
  | .asrBpx _ => 0x54
  | .asw _ => 0xCB
  | .bbr0 _ _ => 0x0F
  | .bbr1 _ _ => 0x1F
  | .bbr2 _ _ => 0x2F
  | .bbr3 _ _ => 0x3F
  | .bbr4 _ _ => 0x4F
  | .bbr5 _ _ => 0x5F
  | .bbr6 _ _ => 0x6F
  | .bbr7 _ _ => 0x7F
  | .bbs0 _ _ => 0x8F
  | .bbs1 _ _ => 0x9F
  | .bbs2 _ _ => 0xAF
  | .bbs3 _ _ => 0xBF
  | .bbs4 _ _ => 0xCF
  | .bbs5 _ _ => 0xDF
  | .bbs6 _ _ => 0xEF
  | .bbs7 _ _ => 0xFF
  | .bccRel _ => 0x90
  | .bccRelw _ => 0x93
  | .bcsRel _ => 0xB0
  | .bcsRelw _ => 0xB3
  | .beqRel _ => 0xF0
  | .beqRelw _ => 0xF3
  | .bitBp _ => 0x24
  | .bitAbs _ => 0x2C
  | .bitBpx _ => 0x34
  | .bitAbsx _ => 0x3C
  | .bitImm _ => 0x89
  | .bmiRel _ => 0x30
  | .bmiRelw _ => 0x33
  | .bneRel _ => 0xD0
  | .bneRelw _ => 0xD3
  | .bplRel _ => 0x10
  | .bplRelw _ => 0x13
  | .braRel _ => 0x80
  | .braRelw _ => 0x83
  | .brk => 0x00
  | .bsr _ => 0x63
  | .bvcRel _ => 0x50
  | .bvcRelw _ => 0x53
  | .bvsRel _ => 0x70
  | .bvsRelw _ => 0x73
  | .clc => 0x18
  | .cld => 0xD8
  | .cle => 0x02
  | .cli => 0x58
  | .clv => 0xB8
  | .cmpIndx _ => 0xC1
  | .cmpBp _ => 0xC5
  | .cmpImm _ => 0xC9
  | .cmpAbs _ => 0xCD
  | .cmpIndy _ => 0xD1
  | .cmpIndz _ => 0xD2
  | .cmpBpx _ => 0xD5
  | .cmpAbsy _ => 0xD9
  | .cmpAbsx _ => 0xDD
  | .cpxImm _ => 0xE0
  | .cpxBp _ => 0xE4
  | .cpxAbs _ => 0xEC
  | .cpyImm _ => 0xC0
  | .cpyBp _ => 0xC4
  | .cpyAbs _ => 0xCC
  | .cpzImm _ => 0xC2
  | .cpzBp _ => 0xD4
  | .cpzAbs _ => 0xDC
  | .decAcc => 0x3A
  | .decBp _ => 0xC6
  | .decAbs _ => 0xCE
  | .decBpx _ => 0xD6
  | .decAbsx _ => 0xDE
  | .dew _ => 0xC3
  | .dex => 0xCA
  | .dey => 0x88
  | .dez => 0x3B
  | .eom => 0xEA
  | .eorIndx _ => 0x41
  | .eorBp _ => 0x45
  | .eorImm _ => 0x49
  | .eorAbs _ => 0x4D
  | .eorIndy _ => 0x51
  | .eorIndz _ => 0x52
  | .eorBpx _ => 0x55
  | .eorAbsy _ => 0x59
  | .eorAbsx _ => 0x5D
  | .incAcc => 0x1A
  | .incBp _ => 0xE6
  | .incAbs _ => 0xEE
  | .incBpx _ => 0xF6
  | .incAbsx _ => 0xFE
  | .inw _ => 0xE3
  | .inx => 0xE8
  | .iny => 0xC8
  | .inz => 0x1B
  | .jmpAbs _ => 0x4C
  | .jmpAbsind _ => 0x6C
  | .jmpAbsindx _ => 0x7C
  | .jsrAbs _ => 0x20
  | .jsrAbsind _ => 0x22
  | .jsrAbsindx _ => 0x23
  | .ldaIndx _ => 0xA1
  | .ldaBp _ => 0xA5
  | .ldaImm _ => 0xA9
  | .ldaAbs _ => 0xAD
  | .ldaIndy _ => 0xB1
  | .ldaIndz _ => 0xB2
  | .ldaBpx _ => 0xB5
  | .ldaAbsy _ => 0xB9
  | .ldaAbsx _ => 0xBD
  | .ldaIndspy _ => 0xE2
  | .ldxImm _ => 0xA2
  | .ldxBp _ => 0xA6
  | .ldxAbs _ => 0xAE
  | .ldxBpy _ => 0xB6
  | .ldxAbsy _ => 0xBE
  | .ldyImm _ => 0xA0
  | .ldyBp _ => 0xA4
  | .ldyAbs _ => 0xAC
  | .ldyBpx _ => 0xB4
  | .ldyAbsx _ => 0xBC
  | .ldzImm _ => 0xA3
  | .ldzAbs _ => 0xAB
  | .ldzAbsx _ => 0xBB
  | .lsrBp _ => 0x46
  | .lsrAcc => 0x4A
  | .lsrAbs _ => 0x4E
  | .lsrBpx _ => 0x56
  | .lsrAbsx _ => 0x5E
  | .map => 0x5C
  | .neg => 0x42
  | .oraIndx _ => 0x01
  | .oraBp _ => 0x05
  | .oraImm _ => 0x09
  | .oraAbs _ => 0x0D
  | .oraIndy _ => 0x11
  | .oraIndz _ => 0x12
  | .oraBpx _ => 0x15
  | .oraAbsy _ => 0x19
  | .oraAbsx _ => 0x1D
  | .pha => 0x48
  | .php => 0x08
  | .phwImmw _ => 0xF4
  | .phwAbs _ => 0xFC
  | .phx => 0xDA
  | .phy => 0x5A
  | .phz => 0xDB
  | .pla => 0x68
  | .plp => 0x28
  | .plx => 0xFA
  | .ply => 0x7A
  | .plz => 0xFB
  | .rmb0 _ => 0x07
  | .rmb1 _ => 0x17
  | .rmb2 _ => 0x27
  | .rmb3 _ => 0x37
  | .rmb4 _ => 0x47
  | .rmb5 _ => 0x57
  | .rmb6 _ => 0x67
  | .rmb7 _ => 0x77
  | .rolBp _ => 0x26
  | .rolAcc => 0x2A
  | .rolAbs _ => 0x2E
  | .rolBpx _ => 0x36
  | .rolAbsx _ => 0x3E
  | .rorBp _ => 0x66
  | .rorAcc => 0x6A
  | .rorAbs _ => 0x6E
  | .rorBpx _ => 0x76
  | .rorAbsx _ => 0x7E
  | .row _ => 0xEB
  | .rti => 0x40
  | .rts => 0x60
  | .rtsImm _ => 0x62
  | .sbcIndx _ => 0xE1
  | .sbcBp _ => 0xE5
  | .sbcImm _ => 0xE9
  | .sbcAbs _ => 0xED
  | .sbcIndy _ => 0xF1
  | .sbcIndz _ => 0xF2
  | .sbcBpx _ => 0xF5
  | .sbcAbsy _ => 0xF9
  | .sbcAbsx _ => 0xFD
  | .sec => 0x38
  | .sed => 0xF8
  | .see => 0x03
  | .sei => 0x78
  | .smb0 _ => 0x87
  | .smb1 _ => 0x97
  | .smb2 _ => 0xA7
  | .smb3 _ => 0xB7
  | .smb4 _ => 0xC7
  | .smb5 _ => 0xD7
  | .smb6 _ => 0xE7
  | .smb7 _ => 0xF7
  | .staIndx _ => 0x81
  | .staIndspy _ => 0x82
  | .staBp _ => 0x85
  | .staAbs _ => 0x8D
  | .staIndy _ => 0x91
  | .staIndz _ => 0x92
  | .staBpx _ => 0x95
  | .staAbsy _ => 0x99
  | .staAbsx _ => 0x9D
  | .stxBp _ => 0x86
  | .stxAbs _ => 0x8E
  | .stxBpy _ => 0x96
  | .stxAbsy _ => 0x9B
  | .styBp _ => 0x84
  | .styAbsx _ => 0x8B
  | .styAbs _ => 0x8C
  | .styBpx _ => 0x94
  | .stzBp _ => 0x64
  | .stzBpx _ => 0x74
  | .stzAbs _ => 0x9C
  | .stzAbsx _ => 0x9E
  | .tab => 0x5B
  | .tax => 0xAA
  | .tay => 0xA8
  | .taz => 0x4B
  | .tba => 0x7B
  | .trbBp _ => 0x14
  | .trbAbs _ => 0x1C
  | .tsbBp _ => 0x04
  | .tsbAbs _ => 0x0C
  | .tsx => 0xBA
  | .tsy => 0x0B
  | .txa => 0x8A
  | .txs => 0x9A
  | .tya => 0x98
  | .tys => 0x2B
  | .tza => 0x6B

/-- The operand bytes of each instruction, in the order they follow the first byte (R102, R104). -/
def Instr.operandBytes : Instr → List Byte
  | .adcIndx nn => [nn]
  | .adcBp nn => [nn]
  | .adcImm nn => [nn]
  | .adcAbs nnnn => [loByte nnnn, hiByte nnnn]
  | .adcIndy nn => [nn]
  | .adcIndz nn => [nn]
  | .adcBpx nn => [nn]
  | .adcAbsy nnnn => [loByte nnnn, hiByte nnnn]
  | .adcAbsx nnnn => [loByte nnnn, hiByte nnnn]
  | .andIndx nn => [nn]
  | .andBp nn => [nn]
  | .andImm nn => [nn]
  | .andAbs nnnn => [loByte nnnn, hiByte nnnn]
  | .andIndy nn => [nn]
  | .andIndz nn => [nn]
  | .andBpx nn => [nn]
  | .andAbsy nnnn => [loByte nnnn, hiByte nnnn]
  | .andAbsx nnnn => [loByte nnnn, hiByte nnnn]
  | .aslBp nn => [nn]
  | .aslAcc => []
  | .aslAbs nnnn => [loByte nnnn, hiByte nnnn]
  | .aslBpx nn => [nn]
  | .aslAbsx nnnn => [loByte nnnn, hiByte nnnn]
  | .asrAcc => []
  | .asrBp nn => [nn]
  | .asrBpx nn => [nn]
  | .asw nnnn => [loByte nnnn, hiByte nnnn]
  | .bbr0 nn rr => [nn, rr]
  | .bbr1 nn rr => [nn, rr]
  | .bbr2 nn rr => [nn, rr]
  | .bbr3 nn rr => [nn, rr]
  | .bbr4 nn rr => [nn, rr]
  | .bbr5 nn rr => [nn, rr]
  | .bbr6 nn rr => [nn, rr]
  | .bbr7 nn rr => [nn, rr]
  | .bbs0 nn rr => [nn, rr]
  | .bbs1 nn rr => [nn, rr]
  | .bbs2 nn rr => [nn, rr]
  | .bbs3 nn rr => [nn, rr]
  | .bbs4 nn rr => [nn, rr]
  | .bbs5 nn rr => [nn, rr]
  | .bbs6 nn rr => [nn, rr]
  | .bbs7 nn rr => [nn, rr]
  | .bccRel rr => [rr]
  | .bccRelw rrrr => [loByte rrrr, hiByte rrrr]
  | .bcsRel rr => [rr]
  | .bcsRelw rrrr => [loByte rrrr, hiByte rrrr]
  | .beqRel rr => [rr]
  | .beqRelw rrrr => [loByte rrrr, hiByte rrrr]
  | .bitBp nn => [nn]
  | .bitAbs nnnn => [loByte nnnn, hiByte nnnn]
  | .bitBpx nn => [nn]
  | .bitAbsx nnnn => [loByte nnnn, hiByte nnnn]
  | .bitImm nn => [nn]
  | .bmiRel rr => [rr]
  | .bmiRelw rrrr => [loByte rrrr, hiByte rrrr]
  | .bneRel rr => [rr]
  | .bneRelw rrrr => [loByte rrrr, hiByte rrrr]
  | .bplRel rr => [rr]
  | .bplRelw rrrr => [loByte rrrr, hiByte rrrr]
  | .braRel rr => [rr]
  | .braRelw rrrr => [loByte rrrr, hiByte rrrr]
  | .brk => []
  | .bsr rrrr => [loByte rrrr, hiByte rrrr]
  | .bvcRel rr => [rr]
  | .bvcRelw rrrr => [loByte rrrr, hiByte rrrr]
  | .bvsRel rr => [rr]
  | .bvsRelw rrrr => [loByte rrrr, hiByte rrrr]
  | .clc => []
  | .cld => []
  | .cle => []
  | .cli => []
  | .clv => []
  | .cmpIndx nn => [nn]
  | .cmpBp nn => [nn]
  | .cmpImm nn => [nn]
  | .cmpAbs nnnn => [loByte nnnn, hiByte nnnn]
  | .cmpIndy nn => [nn]
  | .cmpIndz nn => [nn]
  | .cmpBpx nn => [nn]
  | .cmpAbsy nnnn => [loByte nnnn, hiByte nnnn]
  | .cmpAbsx nnnn => [loByte nnnn, hiByte nnnn]
  | .cpxImm nn => [nn]
  | .cpxBp nn => [nn]
  | .cpxAbs nnnn => [loByte nnnn, hiByte nnnn]
  | .cpyImm nn => [nn]
  | .cpyBp nn => [nn]
  | .cpyAbs nnnn => [loByte nnnn, hiByte nnnn]
  | .cpzImm nn => [nn]
  | .cpzBp nn => [nn]
  | .cpzAbs nnnn => [loByte nnnn, hiByte nnnn]
  | .decAcc => []
  | .decBp nn => [nn]
  | .decAbs nnnn => [loByte nnnn, hiByte nnnn]
  | .decBpx nn => [nn]
  | .decAbsx nnnn => [loByte nnnn, hiByte nnnn]
  | .dew nn => [nn]
  | .dex => []
  | .dey => []
  | .dez => []
  | .eom => []
  | .eorIndx nn => [nn]
  | .eorBp nn => [nn]
  | .eorImm nn => [nn]
  | .eorAbs nnnn => [loByte nnnn, hiByte nnnn]
  | .eorIndy nn => [nn]
  | .eorIndz nn => [nn]
  | .eorBpx nn => [nn]
  | .eorAbsy nnnn => [loByte nnnn, hiByte nnnn]
  | .eorAbsx nnnn => [loByte nnnn, hiByte nnnn]
  | .incAcc => []
  | .incBp nn => [nn]
  | .incAbs nnnn => [loByte nnnn, hiByte nnnn]
  | .incBpx nn => [nn]
  | .incAbsx nnnn => [loByte nnnn, hiByte nnnn]
  | .inw nn => [nn]
  | .inx => []
  | .iny => []
  | .inz => []
  | .jmpAbs nnnn => [loByte nnnn, hiByte nnnn]
  | .jmpAbsind nnnn => [loByte nnnn, hiByte nnnn]
  | .jmpAbsindx nnnn => [loByte nnnn, hiByte nnnn]
  | .jsrAbs nnnn => [loByte nnnn, hiByte nnnn]
  | .jsrAbsind nnnn => [loByte nnnn, hiByte nnnn]
  | .jsrAbsindx nnnn => [loByte nnnn, hiByte nnnn]
  | .ldaIndx nn => [nn]
  | .ldaBp nn => [nn]
  | .ldaImm nn => [nn]
  | .ldaAbs nnnn => [loByte nnnn, hiByte nnnn]
  | .ldaIndy nn => [nn]
  | .ldaIndz nn => [nn]
  | .ldaBpx nn => [nn]
  | .ldaAbsy nnnn => [loByte nnnn, hiByte nnnn]
  | .ldaAbsx nnnn => [loByte nnnn, hiByte nnnn]
  | .ldaIndspy nn => [nn]
  | .ldxImm nn => [nn]
  | .ldxBp nn => [nn]
  | .ldxAbs nnnn => [loByte nnnn, hiByte nnnn]
  | .ldxBpy nn => [nn]
  | .ldxAbsy nnnn => [loByte nnnn, hiByte nnnn]
  | .ldyImm nn => [nn]
  | .ldyBp nn => [nn]
  | .ldyAbs nnnn => [loByte nnnn, hiByte nnnn]
  | .ldyBpx nn => [nn]
  | .ldyAbsx nnnn => [loByte nnnn, hiByte nnnn]
  | .ldzImm nn => [nn]
  | .ldzAbs nnnn => [loByte nnnn, hiByte nnnn]
  | .ldzAbsx nnnn => [loByte nnnn, hiByte nnnn]
  | .lsrBp nn => [nn]
  | .lsrAcc => []
  | .lsrAbs nnnn => [loByte nnnn, hiByte nnnn]
  | .lsrBpx nn => [nn]
  | .lsrAbsx nnnn => [loByte nnnn, hiByte nnnn]
  | .map => []
  | .neg => []
  | .oraIndx nn => [nn]
  | .oraBp nn => [nn]
  | .oraImm nn => [nn]
  | .oraAbs nnnn => [loByte nnnn, hiByte nnnn]
  | .oraIndy nn => [nn]
  | .oraIndz nn => [nn]
  | .oraBpx nn => [nn]
  | .oraAbsy nnnn => [loByte nnnn, hiByte nnnn]
  | .oraAbsx nnnn => [loByte nnnn, hiByte nnnn]
  | .pha => []
  | .php => []
  | .phwImmw nnnn => [loByte nnnn, hiByte nnnn]
  | .phwAbs nnnn => [loByte nnnn, hiByte nnnn]
  | .phx => []
  | .phy => []
  | .phz => []
  | .pla => []
  | .plp => []
  | .plx => []
  | .ply => []
  | .plz => []
  | .rmb0 nn => [nn]
  | .rmb1 nn => [nn]
  | .rmb2 nn => [nn]
  | .rmb3 nn => [nn]
  | .rmb4 nn => [nn]
  | .rmb5 nn => [nn]
  | .rmb6 nn => [nn]
  | .rmb7 nn => [nn]
  | .rolBp nn => [nn]
  | .rolAcc => []
  | .rolAbs nnnn => [loByte nnnn, hiByte nnnn]
  | .rolBpx nn => [nn]
  | .rolAbsx nnnn => [loByte nnnn, hiByte nnnn]
  | .rorBp nn => [nn]
  | .rorAcc => []
  | .rorAbs nnnn => [loByte nnnn, hiByte nnnn]
  | .rorBpx nn => [nn]
  | .rorAbsx nnnn => [loByte nnnn, hiByte nnnn]
  | .row nnnn => [loByte nnnn, hiByte nnnn]
  | .rti => []
  | .rts => []
  | .rtsImm nn => [nn]
  | .sbcIndx nn => [nn]
  | .sbcBp nn => [nn]
  | .sbcImm nn => [nn]
  | .sbcAbs nnnn => [loByte nnnn, hiByte nnnn]
  | .sbcIndy nn => [nn]
  | .sbcIndz nn => [nn]
  | .sbcBpx nn => [nn]
  | .sbcAbsy nnnn => [loByte nnnn, hiByte nnnn]
  | .sbcAbsx nnnn => [loByte nnnn, hiByte nnnn]
  | .sec => []
  | .sed => []
  | .see => []
  | .sei => []
  | .smb0 nn => [nn]
  | .smb1 nn => [nn]
  | .smb2 nn => [nn]
  | .smb3 nn => [nn]
  | .smb4 nn => [nn]
  | .smb5 nn => [nn]
  | .smb6 nn => [nn]
  | .smb7 nn => [nn]
  | .staIndx nn => [nn]
  | .staIndspy nn => [nn]
  | .staBp nn => [nn]
  | .staAbs nnnn => [loByte nnnn, hiByte nnnn]
  | .staIndy nn => [nn]
  | .staIndz nn => [nn]
  | .staBpx nn => [nn]
  | .staAbsy nnnn => [loByte nnnn, hiByte nnnn]
  | .staAbsx nnnn => [loByte nnnn, hiByte nnnn]
  | .stxBp nn => [nn]
  | .stxAbs nnnn => [loByte nnnn, hiByte nnnn]
  | .stxBpy nn => [nn]
  | .stxAbsy nnnn => [loByte nnnn, hiByte nnnn]
  | .styBp nn => [nn]
  | .styAbsx nnnn => [loByte nnnn, hiByte nnnn]
  | .styAbs nnnn => [loByte nnnn, hiByte nnnn]
  | .styBpx nn => [nn]
  | .stzBp nn => [nn]
  | .stzBpx nn => [nn]
  | .stzAbs nnnn => [loByte nnnn, hiByte nnnn]
  | .stzAbsx nnnn => [loByte nnnn, hiByte nnnn]
  | .tab => []
  | .tax => []
  | .tay => []
  | .taz => []
  | .tba => []
  | .trbBp nn => [nn]
  | .trbAbs nnnn => [loByte nnnn, hiByte nnnn]
  | .tsbBp nn => [nn]
  | .tsbAbs nnnn => [loByte nnnn, hiByte nnnn]
  | .tsx => []
  | .tsy => []
  | .txa => []
  | .txs => []
  | .tya => []
  | .tys => []
  | .tza => []

/-- The bytes of an instruction (R100, R101). -/
def encode (i : Instr) : List Byte := i.opcode :: i.operandBytes

end Sys2Proof
end

