-- ==== Sys2Proof/Config.lean ====
section
/-! DEFINITION. The named parameters of the spec (`00_scope.md` rule R6): their types, and the values the spec
leaves free. A parameter with a short list of values is a field of `Params`, which the state carries, so that a
statement about every state holds for every value of it. A parameter that is a function with no default is an
uninterpreted constant here: it has no body, and nothing can be proved of its values. -/
namespace Sys2Proof

/-- Why a program address is translated (R70). -/
inductive AccessKind where
  | fetch
  | read
  | write
deriving DecidableEq, Repr

/-- A result byte with the four flags that ADC and SBC write (R6: the range of `BcdAdc` and `BcdSbc`). -/
structure AluOutcome where
  value : Byte
  n : Bool
  v : Bool
  z : Bool
  c : Bool
deriving DecidableEq, Repr, Inhabited

/-- The parameters of rule R6 that take few values. Log entries 1 to 4. -/
structure Params where
  /-- `REL16_BASE`, 2 or 3: added to the opcode's address before a 16-bit displacement (R160, D14). -/
  rel16Base : Nat
  /-- `FLAT_ADDR_BITS`, at most 32: how many bits of a flat address select a location (R64, D22). -/
  flatAddrBits : Nat
  /-- `RTS_IMM_ADJUST_FIRST`: whether `RTS #$nn` moves the stack pointer before it pulls (R383, D26). -/
  rtsImmAdjustFirst : Bool
  /-- `EOM_PREFIX_INTERRUPTIBLE`: whether an interrupt may come right after EOM (R506, D24). -/
  eomPrefixInterruptible : Bool
deriving DecidableEq, Repr

/-- `ResetState`: the registers and flags whose value after reset the spec leaves unspecified (R41, R560). -/
structure ResetState where
  a : Byte
  x : Byte
  y : Byte
  spl : Byte
  n : Bool
  v : Bool
  d : Bool
  z : Bool
  c : Bool
deriving DecidableEq, Repr

/-- `MapState` (R38). The spec takes it as an abstract type and offers one instantiation (`93_` G4).
`c65` is that instantiation: the four bytes MAP latched. `platform` is any other memory map, its state written as a
code, with uninterpreted `Config.platformLatch` and `Config.platformTranslate`. Log entry 5. -/
inductive MapState where
  | c65 (ma mx my mz : Byte)
  | platform (code : Nat)
deriving DecidableEq, Repr

/-- `MapLatch` of a platform map (R38, R446): uninterpreted. -/
opaque Config.platformLatch (a x y z : Byte) (code : Nat) : Nat

/-- `MapReset` of a platform map (R6, R38): uninterpreted. -/
opaque Config.platformReset : Nat

/-- `Translate` of a platform map (R70): uninterpreted, a function of its three arguments. -/
opaque Config.platformTranslate (code : Nat) (addr : Addr) (kind : AccessKind) : FlatAddr

/-- `BcdAdc` (R242): the outcome of a decimal ADC when an operand is not valid BCD. Uninterpreted. Log entry 6. -/
opaque Config.bcdAdc (a m : Byte) (c : Bool) : AluOutcome

/-- `BcdSbc` (R281): the outcome of a decimal SBC when an operand is not valid BCD. Uninterpreted. Log entry 6. -/
opaque Config.bcdSbc (a m : Byte) (c : Bool) : AluOutcome

/-- The `draw` of rules R242 and R281, `P.V` after a decimal ADC or SBC: a free value for each draw. Log entry 7. -/
opaque Config.freeFlag (draw : Nat) : Bool

end Sys2Proof
end

