-- ==== Sys2Proof/Machine/Defaults.lean ====
section
/-! DEFINITION. The values of the model's run from `State.reset` that the spec leaves to the model or offers as a
default. No rule rests on them; each has its log entry. -/
namespace Sys2Proof.Machine

/-- What a flat address that nothing has written reads as. The spec gives memory no contents (R41); its test
vectors use `$00`. DESIGN CHOICE, unsafe. Log entry 8. -/
def unlistedByte : Byte := 0x00

/-- The values this spec takes for the parameters of rule R6: `REL16_BASE` 2, `FLAT_ADDR_BITS` 32,
`RTS_IMM_ADJUST_FIRST` true, `EOM_PREFIX_INTERRUPTIBLE` false. Log entries 1 to 4. -/
def defaultParams : Params :=
  { rel16Base := 2, flatAddrBits := 32, rtsImmAdjustFirst := true, eomPrefixInterruptible := false }

/-- The registers and flags that rule R41 leaves unspecified after reset, at the values every vector of
`95_test_vectors.md` starts from. DESIGN CHOICE, unsafe. Log entry 9. -/
def defaultResetState : ResetState :=
  { a := 0, x := 0, y := 0, spl := 0xFF, n := false, v := false, d := false, z := false, c := false }

/-- The offered C65 map with all eight blocks unmapped (`93_` G4): the map of `State.reset`. Log entry 5. -/
def unmapped : MapState := .c65 0 0 0 0

end Sys2Proof.Machine
end

