-- ==== Sys2Proof/Machine/State.lean ====
section
/-! DEFINITION. The state of the machine (`10_state.md`), the ways a step can stop, and the state after reset. -/
namespace Sys2Proof.Machine

/-- The seven stored flags (R25). The Break bit is not stored (R32). -/
structure PFlags where
  /-- `P.N`, Negative (R26). -/
  n : Bool
  /-- `P.V`, Overflow (R29). -/
  v : Bool
  /-- `P.E`, Extended Stack Disable (R34). -/
  e : Bool
  /-- `P.D`, Decimal (R30). -/
  d : Bool
  /-- `P.I`, Interrupt Disable (R31). -/
  i : Bool
  /-- `P.Z`, Zero (R27). -/
  z : Bool
  /-- `P.C`, Carry (R28). -/
  c : Bool
deriving DecidableEq, Repr

/-- The flat address space (R60, R64): the locations that hold something other than `unlistedByte`, by rising
address. -/
abbrev Memory := List Host.Cell

/-- What the environment does at one step (R11, R505): it supplies the level `IrqLine` and the event `NmiEvent`,
or it applies reset, with the values that reset leaves unspecified. Log entries 11 and 12. -/
inductive EnvInput where
  | signals (irqLine nmiEvent : Bool)
  | reset (unspecified : ResetState)
deriving DecidableEq, Repr

/-- The machine. -/
structure State where
  /-- The Accumulator (R20). -/
  a : Byte
  /-- The X Register (R20). -/
  x : Byte
  /-- The Y Register (R20). -/
  y : Byte
  /-- The Z Register (R20). The zero flag is `p.z`. -/
  z : Byte
  /-- The Base Page Register (R21). -/
  b : Byte
  /-- The high byte of the stack pointer (R22). -/
  sph : Byte
  /-- The low byte of the stack pointer (R22). -/
  spl : Byte
  /-- The program counter (R23). -/
  pc : Addr
  /-- The flags (R25). -/
  p : PFlags
  /-- `map_inhibit` (R37): MAP has executed and no EOM since. -/
  mapInhibit : Bool
  /-- `eom_prefix` (R39): the instruction executed last was EOM. -/
  eomPrefix : Bool
  /-- `nmi_pending` (R40, R505). -/
  nmiPending : Bool
  /-- `MapState` (R38). -/
  mapState : MapState
  /-- The flat address space (R60, R64). -/
  mem : Memory
  /-- What the environment does at the steps to come (R11, R505). The list's end is an environment that does
  nothing more. The model's own field. Log entry 11. -/
  inputs : List EnvInput
  /-- The parameters of rule R6. The model's own field; no step changes it. Log entries 1 to 4. -/
  params : Params
  /-- How many draws (R9) have been made: the argument of `Config.freeFlag`. The model's own field. Log entry 7. -/
  draws : Nat
deriving DecidableEq, Repr

/-- The machine has no fault: "it is never stuck and never faults" (R11). -/
inductive Fault where
  /-- Raised by the instruction step if the decoder rejected the bytes fetched. It never happens: every first byte
  is assigned (R107) and as many bytes are fetched as it asks for (R101). Safe. Log entry 30. -/
  | undecodable (e : DecodeError)
deriving DecidableEq, Repr

/-- Why an instruction has no meaning. -/
inductive Refusal where
  /-- Raised by `exec` for an instruction whose meaning is not written. No arm raises it. Safe. -/
  | notModelled (mnemonic : String)
deriving DecidableEq, Repr

/-- What one step answers. -/
abbrev StepResult := Host.Outcome State Fault Refusal

/-- The machine right after reset (R41, R560), with memory in which nothing is listed and an environment that does
nothing. The program counter is the word at the reset vector `$FFFC`, two bytes of unlisted memory. -/
def State.reset : State where
  a := defaultResetState.a
  x := defaultResetState.x
  y := defaultResetState.y
  z := 0x00
  b := 0x00
  sph := 0x01
  spl := defaultResetState.spl
  pc := wordOf unlistedByte unlistedByte
  p := { n := defaultResetState.n, v := defaultResetState.v, e := true, d := defaultResetState.d, i := true,
         z := defaultResetState.z, c := defaultResetState.c }
  mapInhibit := false
  eomPrefix := false
  nmiPending := false
  mapState := unmapped
  mem := []
  inputs := []
  params := defaultParams
  draws := 0

end Sys2Proof.Machine
end

