-- ==== Sys2Proof/Machine/Flags.lean ====
section
/-! DEFINITION. The flag byte and every flag computation of the spec (`10_state.md` rules R25 to R35,
`42_arithmetic_logic.md` rules R240 to R242, R280, R281). -/
namespace Sys2Proof.Machine

/-- `PByte(b)`, the flag byte as pushed (R33); `brk` is the Break bit (R32). Log entry 15. -/
def PFlags.pbyte (p : PFlags) (brk : Bool) : Byte :=
  BitVec.ofNat 8 (p.n.toNat * 128 + p.v.toNat * 64 + p.e.toNat * 32 + brk.toNat * 16 + p.d.toNat * 8
    + p.i.toNat * 4 + p.z.toNat * 2 + p.c.toNat)

/-- `SetP(v)` (R35): bits 5 and 4 are ignored and `P.E` keeps its value. -/
def PFlags.setP (p : PFlags) (v : Byte) : PFlags :=
  { p with n := v.getLsbD 7, v := v.getLsbD 6, d := v.getLsbD 3, i := v.getLsbD 2, z := v.getLsbD 1, c := v.getLsbD 0 }

/-- `SetNZ(v)` (R9). -/
def PFlags.setNZ (p : PFlags) (v : Byte) : PFlags := { p with n := v.getLsbD 7, z := v == 0 }

/-- `SetNZ16(w)` (R9). -/
def PFlags.setNZ16 (p : PFlags) (w : Addr) : PFlags := { p with n := w.getLsbD 15, z := w == 0 }

/-- The four flags of ADC and SBC at once. -/
def PFlags.setAlu (p : PFlags) (r : AluOutcome) : PFlags := { p with n := r.n, v := r.v, z := r.z, c := r.c }

/-- The flags of a compare of register value `r` with `m`: N from the 8-bit difference, C unsigned (R245). -/
def PFlags.setCompare (p : PFlags) (r m : Byte) : PFlags :=
  { p with n := (r - m).getLsbD 7, z := r == m, c := decide (m.toNat ≤ r.toNat) }

/-- The flags of BIT: N and V from `m` alone, Z from `a & m` (R244). -/
def PFlags.setBit (p : PFlags) (a m : Byte) : PFlags :=
  { p with n := m.getLsbD 7, v := m.getLsbD 6, z := a &&& m == 0 }

/-- Binary addition with carry and its flags (R241). -/
def addBinary (a m : Byte) (c : Bool) : AluOutcome :=
  let t := a.toNat + m.toNat + c.toNat
  let r := BitVec.ofNat 8 t
  { value := r, n := r.getLsbD 7, v := ((a ^^^ r) &&& (m ^^^ r)).getLsbD 7, z := r == 0, c := decide (255 < t) }

/-- Binary subtraction with carry, the addition of the complement (R280). -/
def subBinary (a m : Byte) (c : Bool) : AluOutcome := addBinary a (~~~m) c

/-- A byte is valid BCD when both its nibbles are 0 to 9 (R242). -/
def bcdValid (v : Byte) : Bool := decide (v.toNat / 16 ≤ 9) && decide (v.toNat % 16 ≤ 9)

/-- `dec(v) = 10 * v[7:4] + v[3:0]` (R242). -/
def bcdDec (v : Byte) : Nat := 10 * (v.toNat / 16) + v.toNat % 16

/-- `bcd(n) = (n / 10) * 16 + (n mod 10)` (R242). -/
def bcdEnc (n : Nat) : Byte := BitVec.ofNat 8 (n / 10 * 16 + n % 10)

/-- Decimal addition of two valid BCD bytes; `draw` is the V that the rule leaves free (R242). -/
def addDecimal (a m : Byte) (c draw : Bool) : AluOutcome :=
  let t := bcdDec a + bcdDec m + c.toNat
  let r := bcdEnc (t % 100)
  { value := r, n := r.getLsbD 7, v := draw, z := r == 0, c := decide (99 < t) }

/-- Decimal subtraction of two valid BCD bytes; `draw` is the V that the rule leaves free (R281). -/
def subDecimal (a m : Byte) (c draw : Bool) : AluOutcome :=
  let t : Int := (bcdDec a : Int) - bcdDec m - 1 + c.toNat
  let r := bcdEnc (t % 100).toNat
  { value := r, n := r.getLsbD 7, v := draw, z := r == 0, c := decide (0 ≤ t) }

end Sys2Proof.Machine
end

