-- ==== Sys2Proof/Machine/Ops.lean ====
section
/-! DEFINITION. The operations over registers, memory and the stack that every meaning is written with
(`20_memory.md`), taking a trap (`60_exceptions.md` rule R508) and returning from one (`45_stack_flag_system.md`
rule R441). -/
namespace Sys2Proof.Machine

/-! ### Registers -/

/-- `A <- v`. -/
def State.setA (s : State) (v : Byte) : State := { s with a := v }

/-- `X <- v`. -/
def State.setX (s : State) (v : Byte) : State := { s with x := v }

/-- `Y <- v`. -/
def State.setY (s : State) (v : Byte) : State := { s with y := v }

/-- `Z <- v`, the register. -/
def State.setZ (s : State) (v : Byte) : State := { s with z := v }

/-- `B <- v`. -/
def State.setB (s : State) (v : Byte) : State := { s with b := v }

/-- `SPH <- v`. -/
def State.setSph (s : State) (v : Byte) : State := { s with sph := v }

/-- `SPL <- v`. -/
def State.setSpl (s : State) (v : Byte) : State := { s with spl := v }

/-- `PC <- a`. -/
def State.setPc (s : State) (a : Addr) : State := { s with pc := a }

/-- The flags become `p`. -/
def State.setFlags (s : State) (p : PFlags) : State := { s with p := p }

/-- The memory becomes `m`. -/
def State.setMem (s : State) (m : Memory) : State := { s with mem := m }

/-- `map_inhibit <- v` (R37). -/
def State.setMapInhibit (s : State) (v : Bool) : State := { s with mapInhibit := v }

/-- `eom_prefix <- v` (R39). -/
def State.setEomPrefix (s : State) (v : Bool) : State := { s with eomPrefix := v }

/-- `nmi_pending <- v` (R40). -/
def State.setNmiPending (s : State) (v : Bool) : State := { s with nmiPending := v }

/-- `MapState <- m` (R38). -/
def State.setMapState (s : State) (m : MapState) : State := { s with mapState := m }

/-- The inputs to come become `l`. -/
def State.setInputs (s : State) (l : List EnvInput) : State := { s with inputs := l }

/-- The count of draws becomes `k`. -/
def State.setDraws (s : State) (k : Nat) : State := { s with draws := k }

/-- `SetNZ(v)` (R9). -/
def State.setNZ (s : State) (v : Byte) : State := s.setFlags (s.p.setNZ v)

/-- `SetNZ16(w)` (R9). -/
def State.setNZ16 (s : State) (w : Addr) : State := s.setFlags (s.p.setNZ16 w)

/-- `P.C <- c`. -/
def State.setCarry (s : State) (c : Bool) : State := s.setFlags { s.p with c := c }

/-- `PC <- (pc0 + len) mod 65536` (R24). -/
def State.advance (s : State) (len : Nat) : State := s.setPc (s.pc + BitVec.ofNat 16 len)

/-- `SP`, that is `SPH:SPL` (R22). -/
def State.sp (s : State) : Addr := wordOf s.sph s.spl

/-! ### The flat address space (R64) -/

/-- The byte at address `k`. -/
def Memory.read : Memory → Nat → Byte
  | [], _ => unlistedByte
  | (j, v) :: rest, k => if k < j then unlistedByte else if k = j then v else Memory.read rest k

/-- The entries from the first whose address is above `k` on. -/
def Memory.dropTo (k : Nat) : Memory → Memory
  | [] => []
  | (j, v) :: rest => if j ≤ k then Memory.dropTo k rest else (j, v) :: rest

/-- The memory with `v` at address `k`. Writing what an unlisted address reads as takes the entry out. -/
def Memory.write : Memory → Nat → Byte → Memory
  | [], k, v => if v = unlistedByte then [] else [(k, v)]
  | (j, u) :: rest, k, v =>
    if k < j then (if v = unlistedByte then (j, u) :: rest else (k, v) :: (j, u) :: rest)
    else if k = j then (if v = unlistedByte then Memory.dropTo k rest else (k, v) :: rest)
    else (j, u) :: Memory.write rest k v

/-- The one canonical form: addresses strictly rising, and no entry equal to what an unlisted address reads as. -/
def Memory.wf (m : Memory) : Bool :=
  decide (m.Pairwise fun c d => c.1 < d.1) && m.all fun c => c.2 != unlistedByte

/-- The location that a flat address selects: `a mod 2^FLAT_ADDR_BITS` (R64). -/
def State.cell (s : State) (f : FlatAddr) : Nat := f.toNat % 2 ^ s.params.flatAddrBits

/-- `FlatRead(a, 1)` (R64). -/
def State.flatRead (s : State) (f : FlatAddr) : Byte := s.mem.read (s.cell f)

/-- `FlatWrite(a, 1, v)` (R64). -/
def State.flatWrite (s : State) (f : FlatAddr) (v : Byte) : State := s.setMem (s.mem.write (s.cell f) v)

/-! ### Translation (R70) -/

/-- The translation that `93_implementation_defined.md` G4 offers: eight blocks of 8 KiB; a mapped block is moved by
an offset and the sum kept `mod 2^20`. Blocks 0 to 3 are controlled by `mx` and `ma`, blocks 4 to 7 by `mz` and
`my`. PRESUMED. Log entry 5. -/
def c65Translate (ma mx my mz : Byte) (addr : Addr) : FlatAddr :=
  let k := addr.toNat / 8192
  let ctl := if k < 4 then mx else mz
  let off := if k < 4 then ma else my
  let mapped := if k < 4 then mx.getLsbD (4 + k) else mz.getLsbD k
  if mapped then BitVec.ofNat 32 ((addr.toNat + (ctl.toNat % 16 * 65536 + off.toNat * 256)) % 2 ^ 20)
  else BitVec.ofNat 32 addr.toNat

/-- `Translate(MapState, addr, kind)` (R70). Log entry 5. -/
def translate (m : MapState) (kind : AccessKind) (addr : Addr) : FlatAddr :=
  match m with
  | .c65 ma mx my mz => c65Translate ma mx my mz addr
  | .platform code => Config.platformTranslate code addr kind

/-- `MapLatch(A, X, Y, Z, MapState)` (R38, R446). Log entry 5. -/
def mapLatch (a x y z : Byte) (m : MapState) : MapState :=
  match m with
  | .c65 _ _ _ _ => .c65 a x y z
  | .platform code => .platform (Config.platformLatch a x y z code)

/-- `MapReset` of the kind of map that the machine has (R38, R560). Log entry 5. -/
def mapReset (m : MapState) : MapState :=
  match m with
  | .c65 _ _ _ _ => unmapped
  | .platform _ => .platform Config.platformReset

/-! ### Program addresses (R62, R63) -/

/-- The location that a program address selects. -/
def State.progCell (s : State) (kind : AccessKind) (addr : Addr) : Nat := s.cell (translate s.mapState kind addr)

/-- `MemRead(addr, 1)` of kind `fetch` (R62, R101). -/
def State.fetchByte (s : State) (addr : Addr) : Byte := s.flatRead (translate s.mapState .fetch addr)

/-- `MemRead(addr, 1)` of kind `read` (R62). -/
def State.readByte (s : State) (addr : Addr) : Byte := s.flatRead (translate s.mapState .read addr)

/-- `MemRead(addr, 2)`: low byte at `addr`, high byte at `addr + 1` (R61, R62). -/
def State.readWord (s : State) (addr : Addr) : Addr := wordOf (s.readByte (addr + 1)) (s.readByte addr)

/-- `MemWrite(addr, 1, v)` (R63). -/
def State.writeByte (s : State) (addr : Addr) (v : Byte) : State := s.flatWrite (translate s.mapState .write addr) v

/-! ### The stack (R65 to R68) -/

/-- `SpAdd(k)`, `k` as a 16-bit two's complement number: `SPL` alone moves when `P.E` is 1, `SPH:SPL` when it
is 0 (R65). -/
def State.spAdd (s : State) (k : Addr) : State :=
  if s.p.e then s.setSpl (s.spl + loByte k)
  else (s.setSph (hiByte (s.sp + k))).setSpl (loByte (s.sp + k))

/-- `Push8(v)`: store at `SP`, then move down by one (R66). -/
def State.push8 (s : State) (v : Byte) : State := (s.writeByte s.sp v).spAdd (-1)

/-- The stack pointer after `Pull8()`, which moves up by one first (R67). -/
def State.pulled (s : State) : State := s.spAdd 1

/-- The byte `Pull8()` returns, read at the new address (R67). -/
def State.pullByte (s : State) : Byte := s.pulled.readByte s.pulled.sp

/-- A word is pushed high byte first (R68). -/
def State.pushWord (s : State) (w : Addr) : State := (s.push8 (hiByte w)).push8 (loByte w)

/-- The stack pointer after a word is pulled (R68). -/
def State.pulledWord (s : State) : State := s.pulled.pulled

/-- The word pulled, low byte first (R68). -/
def State.pullWord (s : State) : Addr := wordOf s.pulled.pullByte s.pullByte

/-! ### Traps and interrupts -/

/-- `Entry(ra, b, vector)`, the one entry sequence of BRK, IRQ and NMI (R508). The vector is read after the pushes.
Log entry 17. -/
def State.entry (s : State) (ra : Addr) (brk : Bool) (vector : Addr) : State :=
  let pushed := (s.pushWord ra).push8 (s.p.pbyte brk)
  let masked := (pushed.setFlags { pushed.p with i := true }).setEomPrefix false
  masked.setPc (masked.readWord vector)

/-- The return from an entry: the flags, then the program counter, to which nothing is added (R441, R511). -/
def State.entryReturn (s : State) : State :=
  let flags := s.pulled.setFlags (s.p.setP s.pullByte)
  flags.pulledWord.setPc flags.pullWord

end Sys2Proof.Machine
end

