-- ==== Sys2Proof/Machine/Operands.lean ====
section
/-! DEFINITION. The operand forms and their effective addresses (`40_addressing_modes.md`). Log entry 16. -/
namespace Sys2Proof.Machine

/-- `BpAddr(d)`: byte `d` of the base page; the offset is reduced `mod 256` before `B` is attached (R142). -/
def State.bpAddr (s : State) (d : Byte) : Addr := wordOf s.b d

/-- `BpWord(d)`: the second byte wraps within the base page (R162). -/
def State.bpWord (s : State) (d : Byte) : Addr := wordOf (s.readByte (s.bpAddr (d + 1))) (s.readByte (s.bpAddr d))

/-- The four pointer bytes of the EOM-prefixed form, each offset wrapping in the base page (R155). -/
def State.bpPointer32 (s : State) (d : Byte) : FlatAddr :=
  pointer32 (s.readByte (s.bpAddr (d + 3))) (s.readByte (s.bpAddr (d + 2)))
    (s.readByte (s.bpAddr (d + 1))) (s.readByte (s.bpAddr d))

/-- The operand forms that select one byte of memory. -/
inductive MemForm where
  | bp (nn : Byte)
  | bpx (nn : Byte)
  | bpy (nn : Byte)
  | abs (nnnn : Addr)
  | absx (nnnn : Addr)
  | absy (nnnn : Addr)
  | indx (nn : Byte)
  | indy (nn : Byte)
  | indz (nn : Byte)
  | indspy (nn : Byte)
deriving DecidableEq, Repr

/-- Where a byte operand lies: at a program address, which is translated, or at a flat address, which is not
(R71). -/
inductive Place where
  | prog (addr : Addr)
  | flat (addr : FlatAddr)
deriving DecidableEq, Repr

/-- The length of an instruction with a memory form (R102). -/
def MemForm.length : MemForm → Nat
  | .bp _ => 2
  | .bpx _ => 2
  | .bpy _ => 2
  | .abs _ => 3
  | .absx _ => 3
  | .absy _ => 3
  | .indx _ => 2
  | .indy _ => 2
  | .indz _ => 2
  | .indspy _ => 2

/-- The effective address of each memory form (R146 to R156). -/
def MemForm.place (s : State) : MemForm → Place
  | .bp nn => .prog (s.bpAddr nn)
  | .bpx nn => .prog (s.bpAddr (nn + s.x))
  | .bpy nn => .prog (s.bpAddr (nn + s.y))
  | .abs nnnn => .prog nnnn
  | .absx nnnn => .prog (nnnn + zext16 s.x)
  | .absy nnnn => .prog (nnnn + zext16 s.y)
  | .indx nn => .prog (s.bpWord (nn + s.x))
  | .indy nn => .prog (s.bpWord nn + zext16 s.y)
  | .indz nn =>
    if s.eomPrefix then .flat (s.bpPointer32 nn + s.z.zeroExtend 32) else .prog (s.bpWord nn + zext16 s.z)
  | .indspy nn => .prog (s.readWord (s.sp + zext16 nn) + zext16 s.y)

/-- The byte at a place (R163). -/
def Place.load (s : State) : Place → Byte
  | .prog a => s.readByte a
  | .flat f => s.flatRead f

/-- The state with `v` stored at a place (R163). -/
def Place.store (s : State) (v : Byte) : Place → State
  | .prog a => s.writeByte a v
  | .flat f => s.flatWrite f v

/-- The flat location that a store at a place writes. -/
def Place.storeCell (s : State) : Place → Nat
  | .prog a => s.progCell .write a
  | .flat f => s.cell f

/-- `Load(form)` of a memory form (R163). -/
def MemForm.load (s : State) (m : MemForm) : Byte := (m.place s).load s

/-- `Store(form, v)` of a memory form (R163). -/
def MemForm.store (s : State) (m : MemForm) (v : Byte) : State := (m.place s).store s v

/-- An operand that is read only: immediate (R144) or in memory. -/
inductive Source where
  | imm (nn : Byte)
  | mem (m : MemForm)
deriving DecidableEq, Repr

/-- `Load(form)` (R163). -/
def Source.load (s : State) : Source → Byte
  | .imm nn => nn
  | .mem m => m.load s

/-- The length of an instruction with a read-only operand (R102). -/
def Source.length : Source → Nat
  | .imm _ => 2
  | .mem m => m.length

/-- An operand that is read, changed and written back: the accumulator (R143) or a byte of memory. -/
inductive Target where
  | acc
  | mem (m : MemForm)
deriving DecidableEq, Repr

/-- `Load(form)` (R163). -/
def Target.load (s : State) : Target → Byte
  | .acc => s.a
  | .mem m => m.load s

/-- `Store(form, v)`: the effective address is the one of the load (R163). -/
def Target.store (s : State) (v : Byte) : Target → State
  | .acc => s.setA v
  | .mem m => m.store s v

/-- The length of an instruction with a read-modify-write operand (R102). -/
def Target.length : Target → Nat
  | .acc => 1
  | .mem m => m.length

/-- The operand forms of JMP and JSR (R149, R157, R158). -/
inductive JumpForm where
  | abs (nnnn : Addr)
  | absind (nnnn : Addr)
  | absindx (nnnn : Addr)
deriving DecidableEq, Repr

/-- The target of a jump form. -/
def JumpForm.target (s : State) : JumpForm → Addr
  | .abs nnnn => nnnn
  | .absind nnnn => s.readWord nnnn
  | .absindx nnnn => s.readWord (nnnn + zext16 s.x)

/-- The target of a relative branch (R159). -/
def relTarget (pc0 : Addr) (rr : Byte) : Addr := pc0 + 2 + sext16 rr

/-- The target of a word-relative branch (R160); `REL16_BASE` is a parameter. Log entry 1. -/
def relwTarget (params : Params) (pc0 rrrr : Addr) : Addr := pc0 + BitVec.ofNat 16 params.rel16Base + rrrr

/-- The target of BBRn and BBSn (R161). -/
def bprelTarget (pc0 : Addr) (rr : Byte) : Addr := pc0 + 3 + sext16 rr

end Sys2Proof.Machine
end

