-- ==== Sys2Proof/Machine/Arithmetic.lean ====
section
/-! DEFINITION. Arithmetic, logic, compare, increment and decrement (`42_arithmetic_logic.md`, rules R240 to R261,
R280, R281). -/
namespace Sys2Proof.Machine

/-- The outcome of ADC on operand `m`: binary (R241), or decimal when `P.D` is 1 (R242). -/
def adcOutcome (m : Byte) (s : State) : AluOutcome :=
  if s.p.d then
    if bcdValid s.a && bcdValid m then addDecimal s.a m s.p.c (Config.freeFlag s.draws)
    else Config.bcdAdc s.a m s.p.c
  else addBinary s.a m s.p.c

/-- The outcome of SBC on operand `m`: binary (R280), or decimal when `P.D` is 1 (R281). -/
def sbcOutcome (m : Byte) (s : State) : AluOutcome :=
  if s.p.d then
    if bcdValid s.a && bcdValid m then subDecimal s.a m s.p.c (Config.freeFlag s.draws)
    else Config.bcdSbc s.a m s.p.c
  else subBinary s.a m s.p.c

/-- A decimal operation on two valid BCD bytes makes one draw (R242, R281); no other makes any. Log entry 7. -/
def drawsAfter (m : Byte) (s : State) : Nat :=
  if s.p.d && bcdValid s.a && bcdValid m then s.draws + 1 else s.draws

/-- An ADC or SBC outcome goes to `A` and the flags N, V, Z, C. -/
def setOutcome (r : AluOutcome) (draws : Nat) (s : State) : State :=
  ((s.setA r.value).setFlags (s.p.setAlu r)).setDraws draws

/-- ADC (R241, R242). -/
def adcWith (src : Source) (s : State) : State :=
  (setOutcome (adcOutcome (src.load s) s) (drawsAfter (src.load s) s) s).advance src.length

/-- SBC (R280, R281). -/
def sbcWith (src : Source) (s : State) : State :=
  (setOutcome (sbcOutcome (src.load s) s) (drawsAfter (src.load s) s) s).advance src.length

/-- AND (R243), EOR (R254), ORA (R261): `A <- A op M`, N and Z from the result. -/
def logicWith (op : Byte → Byte → Byte) (src : Source) (s : State) : State :=
  ((s.setA (op s.a (src.load s))).setNZ (op s.a (src.load s))).advance src.length

/-- BIT (R244). -/
def bitWith (src : Source) (s : State) : State :=
  (s.setFlags (s.p.setBit s.a (src.load s))).advance src.length

/-- CMP, CPX, CPY, CPZ (R245 to R248): register value `r` is compared with the operand. -/
def compareWith (r : Byte) (src : Source) (s : State) : State :=
  (s.setFlags (s.p.setCompare r (src.load s))).advance src.length

/-- INC and DEC (R249, R255): the operand becomes `op` of itself, N and Z from the result. -/
def modifyWith (op : Byte → Byte) (t : Target) (s : State) : State :=
  ((t.store s (op (t.load s))).setNZ (op (t.load s))).advance t.length

/-- INW and DEW (R250, R256): a word in the base page, low byte written first, N and Z from the word. -/
def modifyBpWord (op : Addr → Addr) (nn : Byte) (s : State) : State :=
  let w := op (s.bpWord nn)
  (((s.writeByte (s.bpAddr nn) (loByte w)).writeByte (s.bpAddr (nn + 1)) (hiByte w)).setNZ16 w).advance 2

/-- `$61` `ADC ($nn,X)` (R241, R242; R152). -/
def execAdcIndx (nn : Byte) (s : State) : StepResult := .next (adcWith (.mem (.indx nn)) s)

/-- `$65` `ADC $nn` (R241, R242; R146). -/
def execAdcBp (nn : Byte) (s : State) : StepResult := .next (adcWith (.mem (.bp nn)) s)

/-- `$69` `ADC #$nn` (R241, R242; R144). -/
def execAdcImm (nn : Byte) (s : State) : StepResult := .next (adcWith (.imm nn) s)

/-- `$6D` `ADC $nnnn` (R241, R242; R149). -/
def execAdcAbs (nnnn : Addr) (s : State) : StepResult := .next (adcWith (.mem (.abs nnnn)) s)

/-- `$71` `ADC ($nn),Y` (R241, R242; R153). -/
def execAdcIndy (nn : Byte) (s : State) : StepResult := .next (adcWith (.mem (.indy nn)) s)

/-- `$72` `ADC ($nn),Z` (R241, R242; R154, R155). -/
def execAdcIndz (nn : Byte) (s : State) : StepResult := .next (adcWith (.mem (.indz nn)) s)

/-- `$75` `ADC $nn,X` (R241, R242; R147). -/
def execAdcBpx (nn : Byte) (s : State) : StepResult := .next (adcWith (.mem (.bpx nn)) s)

/-- `$79` `ADC $nnnn,Y` (R241, R242; R151). -/
def execAdcAbsy (nnnn : Addr) (s : State) : StepResult := .next (adcWith (.mem (.absy nnnn)) s)

/-- `$7D` `ADC $nnnn,X` (R241, R242; R150). -/
def execAdcAbsx (nnnn : Addr) (s : State) : StepResult := .next (adcWith (.mem (.absx nnnn)) s)

/-- `$21` `AND ($nn,X)` (R243; R152). -/
def execAndIndx (nn : Byte) (s : State) : StepResult := .next (logicWith (· &&& ·) (.mem (.indx nn)) s)

/-- `$25` `AND $nn` (R243; R146). -/
def execAndBp (nn : Byte) (s : State) : StepResult := .next (logicWith (· &&& ·) (.mem (.bp nn)) s)

/-- `$29` `AND #$nn` (R243; R144). -/
def execAndImm (nn : Byte) (s : State) : StepResult := .next (logicWith (· &&& ·) (.imm nn) s)

/-- `$2D` `AND $nnnn` (R243; R149). -/
def execAndAbs (nnnn : Addr) (s : State) : StepResult := .next (logicWith (· &&& ·) (.mem (.abs nnnn)) s)

/-- `$31` `AND ($nn),Y` (R243; R153). -/
def execAndIndy (nn : Byte) (s : State) : StepResult := .next (logicWith (· &&& ·) (.mem (.indy nn)) s)

/-- `$32` `AND ($nn),Z` (R243; R154, R155). -/
def execAndIndz (nn : Byte) (s : State) : StepResult := .next (logicWith (· &&& ·) (.mem (.indz nn)) s)

/-- `$35` `AND $nn,X` (R243; R147). -/
def execAndBpx (nn : Byte) (s : State) : StepResult := .next (logicWith (· &&& ·) (.mem (.bpx nn)) s)

/-- `$39` `AND $nnnn,Y` (R243; R151). -/
def execAndAbsy (nnnn : Addr) (s : State) : StepResult := .next (logicWith (· &&& ·) (.mem (.absy nnnn)) s)

/-- `$3D` `AND $nnnn,X` (R243; R150). -/
def execAndAbsx (nnnn : Addr) (s : State) : StepResult := .next (logicWith (· &&& ·) (.mem (.absx nnnn)) s)

/-- `$24` `BIT $nn` (R244; R146). -/
def execBitBp (nn : Byte) (s : State) : StepResult := .next (bitWith (.mem (.bp nn)) s)

/-- `$2C` `BIT $nnnn` (R244; R149). -/
def execBitAbs (nnnn : Addr) (s : State) : StepResult := .next (bitWith (.mem (.abs nnnn)) s)

/-- `$34` `BIT $nn,X` (R244; R147). -/
def execBitBpx (nn : Byte) (s : State) : StepResult := .next (bitWith (.mem (.bpx nn)) s)

/-- `$3C` `BIT $nnnn,X` (R244; R150). -/
def execBitAbsx (nnnn : Addr) (s : State) : StepResult := .next (bitWith (.mem (.absx nnnn)) s)

/-- `$89` `BIT #$nn` (R244; R144). -/
def execBitImm (nn : Byte) (s : State) : StepResult := .next (bitWith (.imm nn) s)

/-- `$C1` `CMP ($nn,X)` (R245; R152). -/
def execCmpIndx (nn : Byte) (s : State) : StepResult := .next (compareWith s.a (.mem (.indx nn)) s)

/-- `$C5` `CMP $nn` (R245; R146). -/
def execCmpBp (nn : Byte) (s : State) : StepResult := .next (compareWith s.a (.mem (.bp nn)) s)

/-- `$C9` `CMP #$nn` (R245; R144). -/
def execCmpImm (nn : Byte) (s : State) : StepResult := .next (compareWith s.a (.imm nn) s)

/-- `$CD` `CMP $nnnn` (R245; R149). -/
def execCmpAbs (nnnn : Addr) (s : State) : StepResult := .next (compareWith s.a (.mem (.abs nnnn)) s)

/-- `$D1` `CMP ($nn),Y` (R245; R153). -/
def execCmpIndy (nn : Byte) (s : State) : StepResult := .next (compareWith s.a (.mem (.indy nn)) s)

/-- `$D2` `CMP ($nn),Z` (R245; R154, R155). -/
def execCmpIndz (nn : Byte) (s : State) : StepResult := .next (compareWith s.a (.mem (.indz nn)) s)

/-- `$D5` `CMP $nn,X` (R245; R147). -/
def execCmpBpx (nn : Byte) (s : State) : StepResult := .next (compareWith s.a (.mem (.bpx nn)) s)

/-- `$D9` `CMP $nnnn,Y` (R245; R151). -/
def execCmpAbsy (nnnn : Addr) (s : State) : StepResult := .next (compareWith s.a (.mem (.absy nnnn)) s)

/-- `$DD` `CMP $nnnn,X` (R245; R150). -/
def execCmpAbsx (nnnn : Addr) (s : State) : StepResult := .next (compareWith s.a (.mem (.absx nnnn)) s)

/-- `$E0` `CPX #$nn` (R246; R144). -/
def execCpxImm (nn : Byte) (s : State) : StepResult := .next (compareWith s.x (.imm nn) s)

/-- `$E4` `CPX $nn` (R246; R146). -/
def execCpxBp (nn : Byte) (s : State) : StepResult := .next (compareWith s.x (.mem (.bp nn)) s)

/-- `$EC` `CPX $nnnn` (R246; R149). -/
def execCpxAbs (nnnn : Addr) (s : State) : StepResult := .next (compareWith s.x (.mem (.abs nnnn)) s)

/-- `$C0` `CPY #$nn` (R247; R144). -/
def execCpyImm (nn : Byte) (s : State) : StepResult := .next (compareWith s.y (.imm nn) s)

/-- `$C4` `CPY $nn` (R247; R146). -/
def execCpyBp (nn : Byte) (s : State) : StepResult := .next (compareWith s.y (.mem (.bp nn)) s)

/-- `$CC` `CPY $nnnn` (R247; R149). -/
def execCpyAbs (nnnn : Addr) (s : State) : StepResult := .next (compareWith s.y (.mem (.abs nnnn)) s)

/-- `$C2` `CPZ #$nn` (R248; R144). -/
def execCpzImm (nn : Byte) (s : State) : StepResult := .next (compareWith s.z (.imm nn) s)

/-- `$D4` `CPZ $nn` (R248; R146). -/
def execCpzBp (nn : Byte) (s : State) : StepResult := .next (compareWith s.z (.mem (.bp nn)) s)

/-- `$DC` `CPZ $nnnn` (R248; R149). -/
def execCpzAbs (nnnn : Addr) (s : State) : StepResult := .next (compareWith s.z (.mem (.abs nnnn)) s)

/-- `$3A` `DEC A` (R249; R143). -/
def execDecAcc (s : State) : StepResult := .next (modifyWith (· - 1) .acc s)

/-- `$C6` `DEC $nn` (R249; R146). -/
def execDecBp (nn : Byte) (s : State) : StepResult := .next (modifyWith (· - 1) (.mem (.bp nn)) s)

/-- `$CE` `DEC $nnnn` (R249; R149). -/
def execDecAbs (nnnn : Addr) (s : State) : StepResult := .next (modifyWith (· - 1) (.mem (.abs nnnn)) s)

/-- `$D6` `DEC $nn,X` (R249; R147). -/
def execDecBpx (nn : Byte) (s : State) : StepResult := .next (modifyWith (· - 1) (.mem (.bpx nn)) s)

/-- `$DE` `DEC $nnnn,X` (R249; R150). -/
def execDecAbsx (nnnn : Addr) (s : State) : StepResult := .next (modifyWith (· - 1) (.mem (.absx nnnn)) s)

/-- `$C3` `DEW $nn` (R250; R146). -/
def execDew (nn : Byte) (s : State) : StepResult := .next (modifyBpWord (· - 1) nn s)

/-- `$CA` `DEX` (R251). -/
def execDex (s : State) : StepResult := .next (((s.setX (s.x - 1)).setNZ (s.x - 1)).advance 1)

/-- `$88` `DEY` (R252). -/
def execDey (s : State) : StepResult := .next (((s.setY (s.y - 1)).setNZ (s.y - 1)).advance 1)

/-- `$3B` `DEZ` (R253). -/
def execDez (s : State) : StepResult := .next (((s.setZ (s.z - 1)).setNZ (s.z - 1)).advance 1)

/-- `$41` `EOR ($nn,X)` (R254; R152). -/
def execEorIndx (nn : Byte) (s : State) : StepResult := .next (logicWith (· ^^^ ·) (.mem (.indx nn)) s)

/-- `$45` `EOR $nn` (R254; R146). -/
def execEorBp (nn : Byte) (s : State) : StepResult := .next (logicWith (· ^^^ ·) (.mem (.bp nn)) s)

/-- `$49` `EOR #$nn` (R254; R144). -/
def execEorImm (nn : Byte) (s : State) : StepResult := .next (logicWith (· ^^^ ·) (.imm nn) s)

/-- `$4D` `EOR $nnnn` (R254; R149). -/
def execEorAbs (nnnn : Addr) (s : State) : StepResult := .next (logicWith (· ^^^ ·) (.mem (.abs nnnn)) s)

/-- `$51` `EOR ($nn),Y` (R254; R153). -/
def execEorIndy (nn : Byte) (s : State) : StepResult := .next (logicWith (· ^^^ ·) (.mem (.indy nn)) s)

/-- `$52` `EOR ($nn),Z` (R254; R154, R155). -/
def execEorIndz (nn : Byte) (s : State) : StepResult := .next (logicWith (· ^^^ ·) (.mem (.indz nn)) s)

/-- `$55` `EOR $nn,X` (R254; R147). -/
def execEorBpx (nn : Byte) (s : State) : StepResult := .next (logicWith (· ^^^ ·) (.mem (.bpx nn)) s)

/-- `$59` `EOR $nnnn,Y` (R254; R151). -/
def execEorAbsy (nnnn : Addr) (s : State) : StepResult := .next (logicWith (· ^^^ ·) (.mem (.absy nnnn)) s)

/-- `$5D` `EOR $nnnn,X` (R254; R150). -/
def execEorAbsx (nnnn : Addr) (s : State) : StepResult := .next (logicWith (· ^^^ ·) (.mem (.absx nnnn)) s)

/-- `$1A` `INC A` (R255; R143). -/
def execIncAcc (s : State) : StepResult := .next (modifyWith (· + 1) .acc s)

/-- `$E6` `INC $nn` (R255; R146). -/
def execIncBp (nn : Byte) (s : State) : StepResult := .next (modifyWith (· + 1) (.mem (.bp nn)) s)

/-- `$EE` `INC $nnnn` (R255; R149). -/
def execIncAbs (nnnn : Addr) (s : State) : StepResult := .next (modifyWith (· + 1) (.mem (.abs nnnn)) s)

/-- `$F6` `INC $nn,X` (R255; R147). -/
def execIncBpx (nn : Byte) (s : State) : StepResult := .next (modifyWith (· + 1) (.mem (.bpx nn)) s)

/-- `$FE` `INC $nnnn,X` (R255; R150). -/
def execIncAbsx (nnnn : Addr) (s : State) : StepResult := .next (modifyWith (· + 1) (.mem (.absx nnnn)) s)

/-- `$E3` `INW $nn` (R256; R146). -/
def execInw (nn : Byte) (s : State) : StepResult := .next (modifyBpWord (· + 1) nn s)

/-- `$E8` `INX` (R257). -/
def execInx (s : State) : StepResult := .next (((s.setX (s.x + 1)).setNZ (s.x + 1)).advance 1)

/-- `$C8` `INY` (R258). -/
def execIny (s : State) : StepResult := .next (((s.setY (s.y + 1)).setNZ (s.y + 1)).advance 1)

/-- `$1B` `INZ` (R259). -/
def execInz (s : State) : StepResult := .next (((s.setZ (s.z + 1)).setNZ (s.z + 1)).advance 1)

/-- `$42` `NEG A` (R260; R143). -/
def execNeg (s : State) : StepResult := .next (((s.setA (-s.a)).setNZ (-s.a)).advance 1)

/-- `$01` `ORA ($nn,X)` (R261; R152). -/
def execOraIndx (nn : Byte) (s : State) : StepResult := .next (logicWith (· ||| ·) (.mem (.indx nn)) s)

/-- `$05` `ORA $nn` (R261; R146). -/
def execOraBp (nn : Byte) (s : State) : StepResult := .next (logicWith (· ||| ·) (.mem (.bp nn)) s)

/-- `$09` `ORA #$nn` (R261; R144). -/
def execOraImm (nn : Byte) (s : State) : StepResult := .next (logicWith (· ||| ·) (.imm nn) s)

/-- `$0D` `ORA $nnnn` (R261; R149). -/
def execOraAbs (nnnn : Addr) (s : State) : StepResult := .next (logicWith (· ||| ·) (.mem (.abs nnnn)) s)

/-- `$11` `ORA ($nn),Y` (R261; R153). -/
def execOraIndy (nn : Byte) (s : State) : StepResult := .next (logicWith (· ||| ·) (.mem (.indy nn)) s)

/-- `$12` `ORA ($nn),Z` (R261; R154, R155). -/
def execOraIndz (nn : Byte) (s : State) : StepResult := .next (logicWith (· ||| ·) (.mem (.indz nn)) s)

/-- `$15` `ORA $nn,X` (R261; R147). -/
def execOraBpx (nn : Byte) (s : State) : StepResult := .next (logicWith (· ||| ·) (.mem (.bpx nn)) s)

/-- `$19` `ORA $nnnn,Y` (R261; R151). -/
def execOraAbsy (nnnn : Addr) (s : State) : StepResult := .next (logicWith (· ||| ·) (.mem (.absy nnnn)) s)

/-- `$1D` `ORA $nnnn,X` (R261; R150). -/
def execOraAbsx (nnnn : Addr) (s : State) : StepResult := .next (logicWith (· ||| ·) (.mem (.absx nnnn)) s)

/-- `$E1` `SBC ($nn,X)` (R280, R281; R152). -/
def execSbcIndx (nn : Byte) (s : State) : StepResult := .next (sbcWith (.mem (.indx nn)) s)

/-- `$E5` `SBC $nn` (R280, R281; R146). -/
def execSbcBp (nn : Byte) (s : State) : StepResult := .next (sbcWith (.mem (.bp nn)) s)

/-- `$E9` `SBC #$nn` (R280, R281; R144). -/
def execSbcImm (nn : Byte) (s : State) : StepResult := .next (sbcWith (.imm nn) s)

/-- `$ED` `SBC $nnnn` (R280, R281; R149). -/
def execSbcAbs (nnnn : Addr) (s : State) : StepResult := .next (sbcWith (.mem (.abs nnnn)) s)

/-- `$F1` `SBC ($nn),Y` (R280, R281; R153). -/
def execSbcIndy (nn : Byte) (s : State) : StepResult := .next (sbcWith (.mem (.indy nn)) s)

/-- `$F2` `SBC ($nn),Z` (R280, R281; R154, R155). -/
def execSbcIndz (nn : Byte) (s : State) : StepResult := .next (sbcWith (.mem (.indz nn)) s)

/-- `$F5` `SBC $nn,X` (R280, R281; R147). -/
def execSbcBpx (nn : Byte) (s : State) : StepResult := .next (sbcWith (.mem (.bpx nn)) s)

/-- `$F9` `SBC $nnnn,Y` (R280, R281; R151). -/
def execSbcAbsy (nnnn : Addr) (s : State) : StepResult := .next (sbcWith (.mem (.absy nnnn)) s)

/-- `$FD` `SBC $nnnn,X` (R280, R281; R150). -/
def execSbcAbsx (nnnn : Addr) (s : State) : StepResult := .next (sbcWith (.mem (.absx nnnn)) s)

end Sys2Proof.Machine
end

