-- ==== Sys2Proof/Machine/BranchJump.lean ====
section
/-! DEFINITION. Branch, jump, call and return (`44_branch_jump.md`, rules R350 to R383). -/
namespace Sys2Proof.Machine

/-- A branch with an 8-bit displacement (R370, R159). -/
def branchRel (cond : Bool) (rr : Byte) (s : State) : State :=
  if cond then s.setPc (relTarget s.pc rr) else s.advance 2

/-- A branch with a 16-bit displacement (R370, R160). -/
def branchRelw (cond : Bool) (rrrr : Addr) (s : State) : State :=
  if cond then s.setPc (relwTarget s.params s.pc rrrr) else s.advance 3

/-- BBRn and BBSn (R350 to R367): taken when bit `n` of the base-page byte is `taken`. -/
def branchOnBit (n : Nat) (taken : Bool) (nn rr : Byte) (s : State) : State :=
  if (s.readByte (s.bpAddr nn)).getLsbD n = taken then s.setPc (bprelTarget s.pc rr) else s.advance 3

/-- JSR and BSR (R378, R382): the address of the instruction's last byte is pushed, then the jump is made. The
target was computed before the pushes (D33). -/
def callTo (target : Addr) (s : State) : State := (s.pushWord (s.pc + 2)).setPc target

/-- RTS (R383): one is added to the address pulled. -/
def returnFrom (s : State) : State := s.pulledWord.setPc (s.pullWord + 1)

/-- `RTS #$nn` (R383): the stack pointer is also moved up by `nn`, before or after the pulls. Log entry 3. -/
def returnAdjusting (nn : Byte) (s : State) : State :=
  if s.params.rtsImmAdjustFirst then returnFrom (s.spAdd (zext16 nn))
  else (returnFrom s).spAdd (zext16 nn)

/-- `$0F` `BBR0 $nn,$rr` (R350; R161). -/
def execBbr0 (nn : Byte) (rr : Byte) (s : State) : StepResult := .next (branchOnBit 0 false nn rr s)

/-- `$1F` `BBR1 $nn,$rr` (R351; R161). -/
def execBbr1 (nn : Byte) (rr : Byte) (s : State) : StepResult := .next (branchOnBit 1 false nn rr s)

/-- `$2F` `BBR2 $nn,$rr` (R352; R161). -/
def execBbr2 (nn : Byte) (rr : Byte) (s : State) : StepResult := .next (branchOnBit 2 false nn rr s)

/-- `$3F` `BBR3 $nn,$rr` (R353; R161). -/
def execBbr3 (nn : Byte) (rr : Byte) (s : State) : StepResult := .next (branchOnBit 3 false nn rr s)

/-- `$4F` `BBR4 $nn,$rr` (R354; R161). -/
def execBbr4 (nn : Byte) (rr : Byte) (s : State) : StepResult := .next (branchOnBit 4 false nn rr s)

/-- `$5F` `BBR5 $nn,$rr` (R355; R161). -/
def execBbr5 (nn : Byte) (rr : Byte) (s : State) : StepResult := .next (branchOnBit 5 false nn rr s)

/-- `$6F` `BBR6 $nn,$rr` (R356; R161). -/
def execBbr6 (nn : Byte) (rr : Byte) (s : State) : StepResult := .next (branchOnBit 6 false nn rr s)

/-- `$7F` `BBR7 $nn,$rr` (R357; R161). -/
def execBbr7 (nn : Byte) (rr : Byte) (s : State) : StepResult := .next (branchOnBit 7 false nn rr s)

/-- `$8F` `BBS0 $nn,$rr` (R360; R161). -/
def execBbs0 (nn : Byte) (rr : Byte) (s : State) : StepResult := .next (branchOnBit 0 true nn rr s)

/-- `$9F` `BBS1 $nn,$rr` (R361; R161). -/
def execBbs1 (nn : Byte) (rr : Byte) (s : State) : StepResult := .next (branchOnBit 1 true nn rr s)

/-- `$AF` `BBS2 $nn,$rr` (R362; R161). -/
def execBbs2 (nn : Byte) (rr : Byte) (s : State) : StepResult := .next (branchOnBit 2 true nn rr s)

/-- `$BF` `BBS3 $nn,$rr` (R363; R161). -/
def execBbs3 (nn : Byte) (rr : Byte) (s : State) : StepResult := .next (branchOnBit 3 true nn rr s)

/-- `$CF` `BBS4 $nn,$rr` (R364; R161). -/
def execBbs4 (nn : Byte) (rr : Byte) (s : State) : StepResult := .next (branchOnBit 4 true nn rr s)

/-- `$DF` `BBS5 $nn,$rr` (R365; R161). -/
def execBbs5 (nn : Byte) (rr : Byte) (s : State) : StepResult := .next (branchOnBit 5 true nn rr s)

/-- `$EF` `BBS6 $nn,$rr` (R366; R161). -/
def execBbs6 (nn : Byte) (rr : Byte) (s : State) : StepResult := .next (branchOnBit 6 true nn rr s)

/-- `$FF` `BBS7 $nn,$rr` (R367; R161). -/
def execBbs7 (nn : Byte) (rr : Byte) (s : State) : StepResult := .next (branchOnBit 7 true nn rr s)

/-- `$90` `BCC $rr` (R371; R159). -/
def execBccRel (rr : Byte) (s : State) : StepResult := .next (branchRel (!s.p.c) rr s)

/-- `$93` `BCC $rrrr` (R371; R160). -/
def execBccRelw (rrrr : Addr) (s : State) : StepResult := .next (branchRelw (!s.p.c) rrrr s)

/-- `$B0` `BCS $rr` (R372; R159). -/
def execBcsRel (rr : Byte) (s : State) : StepResult := .next (branchRel s.p.c rr s)

/-- `$B3` `BCS $rrrr` (R372; R160). -/
def execBcsRelw (rrrr : Addr) (s : State) : StepResult := .next (branchRelw s.p.c rrrr s)

/-- `$F0` `BEQ $rr` (R373; R159). -/
def execBeqRel (rr : Byte) (s : State) : StepResult := .next (branchRel s.p.z rr s)

/-- `$F3` `BEQ $rrrr` (R373; R160). -/
def execBeqRelw (rrrr : Addr) (s : State) : StepResult := .next (branchRelw s.p.z rrrr s)

/-- `$30` `BMI $rr` (R374; R159). -/
def execBmiRel (rr : Byte) (s : State) : StepResult := .next (branchRel s.p.n rr s)

/-- `$33` `BMI $rrrr` (R374; R160). -/
def execBmiRelw (rrrr : Addr) (s : State) : StepResult := .next (branchRelw s.p.n rrrr s)

/-- `$D0` `BNE $rr` (R375; R159). -/
def execBneRel (rr : Byte) (s : State) : StepResult := .next (branchRel (!s.p.z) rr s)

/-- `$D3` `BNE $rrrr` (R375; R160). -/
def execBneRelw (rrrr : Addr) (s : State) : StepResult := .next (branchRelw (!s.p.z) rrrr s)

/-- `$10` `BPL $rr` (R376; R159). -/
def execBplRel (rr : Byte) (s : State) : StepResult := .next (branchRel (!s.p.n) rr s)

/-- `$13` `BPL $rrrr` (R376; R160). -/
def execBplRelw (rrrr : Addr) (s : State) : StepResult := .next (branchRelw (!s.p.n) rrrr s)

/-- `$80` `BRA $rr` (R377; R159). -/
def execBraRel (rr : Byte) (s : State) : StepResult := .next (branchRel true rr s)

/-- `$83` `BRA $rrrr` (R377; R160). -/
def execBraRelw (rrrr : Addr) (s : State) : StepResult := .next (branchRelw true rrrr s)

/-- `$63` `BSR $rrrr` (R378; R160). -/
def execBsr (rrrr : Addr) (s : State) : StepResult := .next (callTo (relwTarget s.params s.pc rrrr) s)

/-- `$50` `BVC $rr` (R379; R159). -/
def execBvcRel (rr : Byte) (s : State) : StepResult := .next (branchRel (!s.p.v) rr s)

/-- `$53` `BVC $rrrr` (R379; R160). -/
def execBvcRelw (rrrr : Addr) (s : State) : StepResult := .next (branchRelw (!s.p.v) rrrr s)

/-- `$70` `BVS $rr` (R380; R159). -/
def execBvsRel (rr : Byte) (s : State) : StepResult := .next (branchRel s.p.v rr s)

/-- `$73` `BVS $rrrr` (R380; R160). -/
def execBvsRelw (rrrr : Addr) (s : State) : StepResult := .next (branchRelw s.p.v rrrr s)

/-- `$4C` `JMP $nnnn` (R381; R149). -/
def execJmpAbs (nnnn : Addr) (s : State) : StepResult := .next (s.setPc (JumpForm.target s (.abs nnnn)))

/-- `$6C` `JMP ($nnnn)` (R381; R157). -/
def execJmpAbsind (nnnn : Addr) (s : State) : StepResult := .next (s.setPc (JumpForm.target s (.absind nnnn)))

/-- `$7C` `JMP ($nnnn,X)` (R381; R158). -/
def execJmpAbsindx (nnnn : Addr) (s : State) : StepResult := .next (s.setPc (JumpForm.target s (.absindx nnnn)))

/-- `$20` `JSR $nnnn` (R382; R149). -/
def execJsrAbs (nnnn : Addr) (s : State) : StepResult := .next (callTo (JumpForm.target s (.abs nnnn)) s)

/-- `$22` `JSR ($nnnn)` (R382; R157). -/
def execJsrAbsind (nnnn : Addr) (s : State) : StepResult := .next (callTo (JumpForm.target s (.absind nnnn)) s)

/-- `$23` `JSR ($nnnn,X)` (R382; R158). -/
def execJsrAbsindx (nnnn : Addr) (s : State) : StepResult := .next (callTo (JumpForm.target s (.absindx nnnn)) s)

/-- `$60` `RTS` (R383). -/
def execRts (s : State) : StepResult := .next (returnFrom s)

/-- `$62` `RTS #$nn` (R383; R144). -/
def execRtsImm (nn : Byte) (s : State) : StepResult := .next (returnAdjusting nn s)

end Sys2Proof.Machine
end

