-- ==== Sys2Proof/Machine/LoadStore.lean ====
section
/-! DEFINITION. Load, store and register transfer (`41_load_store_transfer.md`, rules R200 to R219). -/
namespace Sys2Proof.Machine

/-- LDA (R200): `A <- M`, N and Z from `M`. -/
def ldaFrom (src : Source) (s : State) : State := ((s.setA (src.load s)).setNZ (src.load s)).advance src.length

/-- LDX (R201). -/
def ldxFrom (src : Source) (s : State) : State := ((s.setX (src.load s)).setNZ (src.load s)).advance src.length

/-- LDY (R202). -/
def ldyFrom (src : Source) (s : State) : State := ((s.setY (src.load s)).setNZ (src.load s)).advance src.length

/-- LDZ (R203). -/
def ldzFrom (src : Source) (s : State) : State := ((s.setZ (src.load s)).setNZ (src.load s)).advance src.length

/-- STA, STX, STY, STZ (R204 to R207): `v` goes to the operand's place; no flag is written. -/
def storeTo (m : MemForm) (v : Byte) (s : State) : State := (m.store s v).advance m.length

/-- `$A1` `LDA ($nn,X)` (R200; R152). -/
def execLdaIndx (nn : Byte) (s : State) : StepResult := .next (ldaFrom (.mem (.indx nn)) s)

/-- `$A5` `LDA $nn` (R200; R146). -/
def execLdaBp (nn : Byte) (s : State) : StepResult := .next (ldaFrom (.mem (.bp nn)) s)

/-- `$A9` `LDA #$nn` (R200; R144). -/
def execLdaImm (nn : Byte) (s : State) : StepResult := .next (ldaFrom (.imm nn) s)

/-- `$AD` `LDA $nnnn` (R200; R149). -/
def execLdaAbs (nnnn : Addr) (s : State) : StepResult := .next (ldaFrom (.mem (.abs nnnn)) s)

/-- `$B1` `LDA ($nn),Y` (R200; R153). -/
def execLdaIndy (nn : Byte) (s : State) : StepResult := .next (ldaFrom (.mem (.indy nn)) s)

/-- `$B2` `LDA ($nn),Z` (R200; R154, R155). -/
def execLdaIndz (nn : Byte) (s : State) : StepResult := .next (ldaFrom (.mem (.indz nn)) s)

/-- `$B5` `LDA $nn,X` (R200; R147). -/
def execLdaBpx (nn : Byte) (s : State) : StepResult := .next (ldaFrom (.mem (.bpx nn)) s)

/-- `$B9` `LDA $nnnn,Y` (R200; R151). -/
def execLdaAbsy (nnnn : Addr) (s : State) : StepResult := .next (ldaFrom (.mem (.absy nnnn)) s)

/-- `$BD` `LDA $nnnn,X` (R200; R150). -/
def execLdaAbsx (nnnn : Addr) (s : State) : StepResult := .next (ldaFrom (.mem (.absx nnnn)) s)

/-- `$E2` `LDA ($nn,SP),Y` (R200; R156). -/
def execLdaIndspy (nn : Byte) (s : State) : StepResult := .next (ldaFrom (.mem (.indspy nn)) s)

/-- `$A2` `LDX #$nn` (R201; R144). -/
def execLdxImm (nn : Byte) (s : State) : StepResult := .next (ldxFrom (.imm nn) s)

/-- `$A6` `LDX $nn` (R201; R146). -/
def execLdxBp (nn : Byte) (s : State) : StepResult := .next (ldxFrom (.mem (.bp nn)) s)

/-- `$AE` `LDX $nnnn` (R201; R149). -/
def execLdxAbs (nnnn : Addr) (s : State) : StepResult := .next (ldxFrom (.mem (.abs nnnn)) s)

/-- `$B6` `LDX $nn,Y` (R201; R148). -/
def execLdxBpy (nn : Byte) (s : State) : StepResult := .next (ldxFrom (.mem (.bpy nn)) s)

/-- `$BE` `LDX $nnnn,Y` (R201; R151). -/
def execLdxAbsy (nnnn : Addr) (s : State) : StepResult := .next (ldxFrom (.mem (.absy nnnn)) s)

/-- `$A0` `LDY #$nn` (R202; R144). -/
def execLdyImm (nn : Byte) (s : State) : StepResult := .next (ldyFrom (.imm nn) s)

/-- `$A4` `LDY $nn` (R202; R146). -/
def execLdyBp (nn : Byte) (s : State) : StepResult := .next (ldyFrom (.mem (.bp nn)) s)

/-- `$AC` `LDY $nnnn` (R202; R149). -/
def execLdyAbs (nnnn : Addr) (s : State) : StepResult := .next (ldyFrom (.mem (.abs nnnn)) s)

/-- `$B4` `LDY $nn,X` (R202; R147). -/
def execLdyBpx (nn : Byte) (s : State) : StepResult := .next (ldyFrom (.mem (.bpx nn)) s)

/-- `$BC` `LDY $nnnn,X` (R202; R150). -/
def execLdyAbsx (nnnn : Addr) (s : State) : StepResult := .next (ldyFrom (.mem (.absx nnnn)) s)

/-- `$A3` `LDZ #$nn` (R203; R144). -/
def execLdzImm (nn : Byte) (s : State) : StepResult := .next (ldzFrom (.imm nn) s)

/-- `$AB` `LDZ $nnnn` (R203; R149). -/
def execLdzAbs (nnnn : Addr) (s : State) : StepResult := .next (ldzFrom (.mem (.abs nnnn)) s)

/-- `$BB` `LDZ $nnnn,X` (R203; R150). -/
def execLdzAbsx (nnnn : Addr) (s : State) : StepResult := .next (ldzFrom (.mem (.absx nnnn)) s)

/-- `$81` `STA ($nn,X)` (R204; R152). -/
def execStaIndx (nn : Byte) (s : State) : StepResult := .next (storeTo (.indx nn) s.a s)

/-- `$82` `STA ($nn,SP),Y` (R204; R156). -/
def execStaIndspy (nn : Byte) (s : State) : StepResult := .next (storeTo (.indspy nn) s.a s)

/-- `$85` `STA $nn` (R204; R146). -/
def execStaBp (nn : Byte) (s : State) : StepResult := .next (storeTo (.bp nn) s.a s)

/-- `$8D` `STA $nnnn` (R204; R149). -/
def execStaAbs (nnnn : Addr) (s : State) : StepResult := .next (storeTo (.abs nnnn) s.a s)

/-- `$91` `STA ($nn),Y` (R204; R153). -/
def execStaIndy (nn : Byte) (s : State) : StepResult := .next (storeTo (.indy nn) s.a s)

/-- `$92` `STA ($nn),Z` (R204; R154, R155). -/
def execStaIndz (nn : Byte) (s : State) : StepResult := .next (storeTo (.indz nn) s.a s)

/-- `$95` `STA $nn,X` (R204; R147). -/
def execStaBpx (nn : Byte) (s : State) : StepResult := .next (storeTo (.bpx nn) s.a s)

/-- `$99` `STA $nnnn,Y` (R204; R151). -/
def execStaAbsy (nnnn : Addr) (s : State) : StepResult := .next (storeTo (.absy nnnn) s.a s)

/-- `$9D` `STA $nnnn,X` (R204; R150). -/
def execStaAbsx (nnnn : Addr) (s : State) : StepResult := .next (storeTo (.absx nnnn) s.a s)

/-- `$86` `STX $nn` (R205; R146). -/
def execStxBp (nn : Byte) (s : State) : StepResult := .next (storeTo (.bp nn) s.x s)

/-- `$8E` `STX $nnnn` (R205; R149). -/
def execStxAbs (nnnn : Addr) (s : State) : StepResult := .next (storeTo (.abs nnnn) s.x s)

/-- `$96` `STX $nn,Y` (R205; R148). -/
def execStxBpy (nn : Byte) (s : State) : StepResult := .next (storeTo (.bpy nn) s.x s)

/-- `$9B` `STX $nnnn,Y` (R205; R151). -/
def execStxAbsy (nnnn : Addr) (s : State) : StepResult := .next (storeTo (.absy nnnn) s.x s)

/-- `$84` `STY $nn` (R206; R146). -/
def execStyBp (nn : Byte) (s : State) : StepResult := .next (storeTo (.bp nn) s.y s)

/-- `$8B` `STY $nnnn,X` (R206; R150). -/
def execStyAbsx (nnnn : Addr) (s : State) : StepResult := .next (storeTo (.absx nnnn) s.y s)

/-- `$8C` `STY $nnnn` (R206; R149). -/
def execStyAbs (nnnn : Addr) (s : State) : StepResult := .next (storeTo (.abs nnnn) s.y s)

/-- `$94` `STY $nn,X` (R206; R147). -/
def execStyBpx (nn : Byte) (s : State) : StepResult := .next (storeTo (.bpx nn) s.y s)

/-- `$64` `STZ $nn` (R207; R146). -/
def execStzBp (nn : Byte) (s : State) : StepResult := .next (storeTo (.bp nn) s.z s)

/-- `$74` `STZ $nn,X` (R207; R147). -/
def execStzBpx (nn : Byte) (s : State) : StepResult := .next (storeTo (.bpx nn) s.z s)

/-- `$9C` `STZ $nnnn` (R207; R149). -/
def execStzAbs (nnnn : Addr) (s : State) : StepResult := .next (storeTo (.abs nnnn) s.z s)

/-- `$9E` `STZ $nnnn,X` (R207; R150). -/
def execStzAbsx (nnnn : Addr) (s : State) : StepResult := .next (storeTo (.absx nnnn) s.z s)

/-- `$5B` `TAB` (R208). -/
def execTab (s : State) : StepResult := .next ((s.setB s.a).advance 1)

/-- `$AA` `TAX` (R209). -/
def execTax (s : State) : StepResult := .next (((s.setX s.a).setNZ s.a).advance 1)

/-- `$A8` `TAY` (R210). -/
def execTay (s : State) : StepResult := .next (((s.setY s.a).setNZ s.a).advance 1)

/-- `$4B` `TAZ` (R211). -/
def execTaz (s : State) : StepResult := .next (((s.setZ s.a).setNZ s.a).advance 1)

/-- `$7B` `TBA` (R212). -/
def execTba (s : State) : StepResult := .next (((s.setA s.b).setNZ s.b).advance 1)

/-- `$BA` `TSX` (R213). -/
def execTsx (s : State) : StepResult := .next (((s.setX s.spl).setNZ s.spl).advance 1)

/-- `$0B` `TSY` (R214). -/
def execTsy (s : State) : StepResult := .next (((s.setY s.sph).setNZ s.sph).advance 1)

/-- `$8A` `TXA` (R215). -/
def execTxa (s : State) : StepResult := .next (((s.setA s.x).setNZ s.x).advance 1)

/-- `$9A` `TXS` (R216). -/
def execTxs (s : State) : StepResult := .next ((s.setSpl s.x).advance 1)

/-- `$98` `TYA` (R217). -/
def execTya (s : State) : StepResult := .next (((s.setA s.y).setNZ s.y).advance 1)

/-- `$2B` `TYS` (R218). -/
def execTys (s : State) : StepResult := .next ((s.setSph s.y).advance 1)

/-- `$6B` `TZA` (R219). -/
def execTza (s : State) : StepResult := .next (((s.setA s.z).setNZ s.z).advance 1)

end Sys2Proof.Machine
end

