-- ==== Sys2Proof/Machine/ShiftBit.lean ====
section
/-! DEFINITION. Shift, rotate and bit manipulation (`43_shift_rotate_bit.md`, rules R300 to R331). -/
namespace Sys2Proof.Machine

/-- ASL (R300): the result and the new carry, from the operand and the old carry. -/
def aslByte (v : Byte) (_ : Bool) : Byte × Bool := (v <<< 1, v.getLsbD 7)

/-- ASR (R301): bit 7 is kept. -/
def asrByte (v : Byte) (_ : Bool) : Byte × Bool := (v.sshiftRight 1, v.getLsbD 0)

/-- LSR (R303). -/
def lsrByte (v : Byte) (_ : Bool) : Byte × Bool := (v >>> 1, v.getLsbD 0)

/-- ROL (R304): the old carry enters at bit 0. -/
def rolByte (v : Byte) (c : Bool) : Byte × Bool := (v <<< 1 ||| BitVec.ofNat 8 c.toNat, v.getLsbD 7)

/-- ROR (R305): the old carry enters at bit 7. -/
def rorByte (v : Byte) (c : Bool) : Byte × Bool := (v >>> 1 ||| BitVec.ofNat 8 (c.toNat * 128), v.getLsbD 0)

/-- ASW (R302). -/
def aswWord (w : Addr) (_ : Bool) : Addr × Bool := (w <<< 1, w.getLsbD 15)

/-- ROW (R306): the old carry enters at bit 0. -/
def rowWord (w : Addr) (c : Bool) : Addr × Bool := (w <<< 1 ||| BitVec.ofNat 16 c.toNat, w.getLsbD 15)

/-- The byte shifts and rotates (R300, R301, R303 to R305): the operand is replaced by the result, C is the bit
shifted out, N and Z are from the result. -/
def shiftWith (op : Byte → Bool → Byte × Bool) (t : Target) (s : State) : State :=
  let r := op (t.load s) s.p.c
  (((t.store s r.1).setCarry r.2).setNZ r.1).advance t.length

/-- The word shifts (R302, R306): both bytes are read, then the low and the high byte written. -/
def shiftAbsWord (op : Addr → Bool → Addr × Bool) (nnnn : Addr) (s : State) : State :=
  let r := op (s.readWord nnnn) s.p.c
  ((((s.writeByte nnnn (loByte r.1)).writeByte (nnnn + 1) (hiByte r.1)).setCarry r.2).setNZ16 r.1).advance 3

/-- RMBn and SMBn (R310 to R327): a base-page byte becomes `op` of itself; no flag is written. -/
def modifyBpByte (op : Byte → Byte) (nn : Byte) (s : State) : State :=
  (s.writeByte (s.bpAddr nn) (op (s.readByte (s.bpAddr nn)))).advance 2

/-- TRB and TSB (R330, R331): Z from `A & M` before the write; `op` of `A` and the byte is written. -/
def testAndModify (op : Byte → Byte → Byte) (m : MemForm) (s : State) : State :=
  let v := m.load s
  ((m.store s (op s.a v)).setFlags { s.p with z := s.a &&& v == 0 }).advance m.length

/-- `$06` `ASL $nn` (R300; R146). -/
def execAslBp (nn : Byte) (s : State) : StepResult := .next (shiftWith aslByte (.mem (.bp nn)) s)

/-- `$0A` `ASL A` (R300; R143). -/
def execAslAcc (s : State) : StepResult := .next (shiftWith aslByte .acc s)

/-- `$0E` `ASL $nnnn` (R300; R149). -/
def execAslAbs (nnnn : Addr) (s : State) : StepResult := .next (shiftWith aslByte (.mem (.abs nnnn)) s)

/-- `$16` `ASL $nn,X` (R300; R147). -/
def execAslBpx (nn : Byte) (s : State) : StepResult := .next (shiftWith aslByte (.mem (.bpx nn)) s)

/-- `$1E` `ASL $nnnn,X` (R300; R150). -/
def execAslAbsx (nnnn : Addr) (s : State) : StepResult := .next (shiftWith aslByte (.mem (.absx nnnn)) s)

/-- `$43` `ASR A` (R301; R143). -/
def execAsrAcc (s : State) : StepResult := .next (shiftWith asrByte .acc s)

/-- `$44` `ASR $nn` (R301; R146). -/
def execAsrBp (nn : Byte) (s : State) : StepResult := .next (shiftWith asrByte (.mem (.bp nn)) s)

/-- `$54` `ASR $nn,X` (R301; R147). -/
def execAsrBpx (nn : Byte) (s : State) : StepResult := .next (shiftWith asrByte (.mem (.bpx nn)) s)

/-- `$CB` `ASW $nnnn` (R302; R149). -/
def execAsw (nnnn : Addr) (s : State) : StepResult := .next (shiftAbsWord aswWord nnnn s)

/-- `$46` `LSR $nn` (R303; R146). -/
def execLsrBp (nn : Byte) (s : State) : StepResult := .next (shiftWith lsrByte (.mem (.bp nn)) s)

/-- `$4A` `LSR A` (R303; R143). -/
def execLsrAcc (s : State) : StepResult := .next (shiftWith lsrByte .acc s)

/-- `$4E` `LSR $nnnn` (R303; R149). -/
def execLsrAbs (nnnn : Addr) (s : State) : StepResult := .next (shiftWith lsrByte (.mem (.abs nnnn)) s)

/-- `$56` `LSR $nn,X` (R303; R147). -/
def execLsrBpx (nn : Byte) (s : State) : StepResult := .next (shiftWith lsrByte (.mem (.bpx nn)) s)

/-- `$5E` `LSR $nnnn,X` (R303; R150). -/
def execLsrAbsx (nnnn : Addr) (s : State) : StepResult := .next (shiftWith lsrByte (.mem (.absx nnnn)) s)

/-- `$26` `ROL $nn` (R304; R146). -/
def execRolBp (nn : Byte) (s : State) : StepResult := .next (shiftWith rolByte (.mem (.bp nn)) s)

/-- `$2A` `ROL A` (R304; R143). -/
def execRolAcc (s : State) : StepResult := .next (shiftWith rolByte .acc s)

/-- `$2E` `ROL $nnnn` (R304; R149). -/
def execRolAbs (nnnn : Addr) (s : State) : StepResult := .next (shiftWith rolByte (.mem (.abs nnnn)) s)

/-- `$36` `ROL $nn,X` (R304; R147). -/
def execRolBpx (nn : Byte) (s : State) : StepResult := .next (shiftWith rolByte (.mem (.bpx nn)) s)

/-- `$3E` `ROL $nnnn,X` (R304; R150). -/
def execRolAbsx (nnnn : Addr) (s : State) : StepResult := .next (shiftWith rolByte (.mem (.absx nnnn)) s)

/-- `$66` `ROR $nn` (R305; R146). -/
def execRorBp (nn : Byte) (s : State) : StepResult := .next (shiftWith rorByte (.mem (.bp nn)) s)

/-- `$6A` `ROR A` (R305; R143). -/
def execRorAcc (s : State) : StepResult := .next (shiftWith rorByte .acc s)

/-- `$6E` `ROR $nnnn` (R305; R149). -/
def execRorAbs (nnnn : Addr) (s : State) : StepResult := .next (shiftWith rorByte (.mem (.abs nnnn)) s)

/-- `$76` `ROR $nn,X` (R305; R147). -/
def execRorBpx (nn : Byte) (s : State) : StepResult := .next (shiftWith rorByte (.mem (.bpx nn)) s)

/-- `$7E` `ROR $nnnn,X` (R305; R150). -/
def execRorAbsx (nnnn : Addr) (s : State) : StepResult := .next (shiftWith rorByte (.mem (.absx nnnn)) s)

/-- `$EB` `ROW $nnnn` (R306; R149). -/
def execRow (nnnn : Addr) (s : State) : StepResult := .next (shiftAbsWord rowWord nnnn s)

/-- `$07` `RMB0 $nn` (R310; R146). -/
def execRmb0 (nn : Byte) (s : State) : StepResult := .next (modifyBpByte (· &&& 0xFE) nn s)

/-- `$17` `RMB1 $nn` (R311; R146). -/
def execRmb1 (nn : Byte) (s : State) : StepResult := .next (modifyBpByte (· &&& 0xFD) nn s)

/-- `$27` `RMB2 $nn` (R312; R146). -/
def execRmb2 (nn : Byte) (s : State) : StepResult := .next (modifyBpByte (· &&& 0xFB) nn s)

/-- `$37` `RMB3 $nn` (R313; R146). -/
def execRmb3 (nn : Byte) (s : State) : StepResult := .next (modifyBpByte (· &&& 0xF7) nn s)

/-- `$47` `RMB4 $nn` (R314; R146). -/
def execRmb4 (nn : Byte) (s : State) : StepResult := .next (modifyBpByte (· &&& 0xEF) nn s)

/-- `$57` `RMB5 $nn` (R315; R146). -/
def execRmb5 (nn : Byte) (s : State) : StepResult := .next (modifyBpByte (· &&& 0xDF) nn s)

/-- `$67` `RMB6 $nn` (R316; R146). -/
def execRmb6 (nn : Byte) (s : State) : StepResult := .next (modifyBpByte (· &&& 0xBF) nn s)

/-- `$77` `RMB7 $nn` (R317; R146). -/
def execRmb7 (nn : Byte) (s : State) : StepResult := .next (modifyBpByte (· &&& 0x7F) nn s)

/-- `$87` `SMB0 $nn` (R320; R146). -/
def execSmb0 (nn : Byte) (s : State) : StepResult := .next (modifyBpByte (· ||| 0x01) nn s)

/-- `$97` `SMB1 $nn` (R321; R146). -/
def execSmb1 (nn : Byte) (s : State) : StepResult := .next (modifyBpByte (· ||| 0x02) nn s)

/-- `$A7` `SMB2 $nn` (R322; R146). -/
def execSmb2 (nn : Byte) (s : State) : StepResult := .next (modifyBpByte (· ||| 0x04) nn s)

/-- `$B7` `SMB3 $nn` (R323; R146). -/
def execSmb3 (nn : Byte) (s : State) : StepResult := .next (modifyBpByte (· ||| 0x08) nn s)

/-- `$C7` `SMB4 $nn` (R324; R146). -/
def execSmb4 (nn : Byte) (s : State) : StepResult := .next (modifyBpByte (· ||| 0x10) nn s)

/-- `$D7` `SMB5 $nn` (R325; R146). -/
def execSmb5 (nn : Byte) (s : State) : StepResult := .next (modifyBpByte (· ||| 0x20) nn s)

/-- `$E7` `SMB6 $nn` (R326; R146). -/
def execSmb6 (nn : Byte) (s : State) : StepResult := .next (modifyBpByte (· ||| 0x40) nn s)

/-- `$F7` `SMB7 $nn` (R327; R146). -/
def execSmb7 (nn : Byte) (s : State) : StepResult := .next (modifyBpByte (· ||| 0x80) nn s)

/-- `$14` `TRB $nn` (R330; R146). -/
def execTrbBp (nn : Byte) (s : State) : StepResult := .next (testAndModify (fun a v => v &&& ~~~a) (.bp nn) s)

/-- `$1C` `TRB $nnnn` (R330; R149). -/
def execTrbAbs (nnnn : Addr) (s : State) : StepResult := .next (testAndModify (fun a v => v &&& ~~~a) (.abs nnnn) s)

/-- `$04` `TSB $nn` (R331; R146). -/
def execTsbBp (nn : Byte) (s : State) : StepResult := .next (testAndModify (fun a v => v ||| a) (.bp nn) s)

/-- `$0C` `TSB $nnnn` (R331; R149). -/
def execTsbAbs (nnnn : Addr) (s : State) : StepResult := .next (testAndModify (fun a v => v ||| a) (.abs nnnn) s)

end Sys2Proof.Machine
end

