-- ==== Sys2Proof/Machine/StackSystem.lean ====
section
/-! DEFINITION. Stack, flag and system instructions (`45_stack_flag_system.md`, rules R420 to R447). -/
namespace Sys2Proof.Machine

/-- `$48` `PHA` (R420). -/
def execPha (s : State) : StepResult := .next ((s.push8 s.a).advance 1)

/-- `$08` `PHP` (R421). -/
def execPhp (s : State) : StepResult := .next ((s.push8 (s.p.pbyte true)).advance 1)

/-- `$F4` `PHW #$nnnn` (R422; R145). -/
def execPhwImmw (nnnn : Addr) (s : State) : StepResult := .next ((s.pushWord nnnn).advance 3)

/-- `$FC` `PHW $nnnn` (R422; R149). -/
def execPhwAbs (nnnn : Addr) (s : State) : StepResult := .next ((s.pushWord (s.readWord nnnn)).advance 3)

/-- `$DA` `PHX` (R423). -/
def execPhx (s : State) : StepResult := .next ((s.push8 s.x).advance 1)

/-- `$5A` `PHY` (R424). -/
def execPhy (s : State) : StepResult := .next ((s.push8 s.y).advance 1)

/-- `$DB` `PHZ` (R425). -/
def execPhz (s : State) : StepResult := .next ((s.push8 s.z).advance 1)

/-- `$68` `PLA` (R426). -/
def execPla (s : State) : StepResult := .next (((s.pulled.setA s.pullByte).setNZ s.pullByte).advance 1)

/-- `$28` `PLP` (R427). -/
def execPlp (s : State) : StepResult := .next ((s.pulled.setFlags (s.p.setP s.pullByte)).advance 1)

/-- `$FA` `PLX` (R428). -/
def execPlx (s : State) : StepResult := .next (((s.pulled.setX s.pullByte).setNZ s.pullByte).advance 1)

/-- `$7A` `PLY` (R429). -/
def execPly (s : State) : StepResult := .next (((s.pulled.setY s.pullByte).setNZ s.pullByte).advance 1)

/-- `$FB` `PLZ` (R430). -/
def execPlz (s : State) : StepResult := .next (((s.pulled.setZ s.pullByte).setNZ s.pullByte).advance 1)

/-- `$18` `CLC` (R431). -/
def execClc (s : State) : StepResult := .next ((s.setFlags { s.p with c := false }).advance 1)

/-- `$D8` `CLD` (R432). -/
def execCld (s : State) : StepResult := .next ((s.setFlags { s.p with d := false }).advance 1)

/-- `$02` `CLE` (R433). -/
def execCle (s : State) : StepResult := .next ((s.setFlags { s.p with e := false }).advance 1)

/-- `$58` `CLI` (R434). -/
def execCli (s : State) : StepResult := .next ((s.setFlags { s.p with i := false }).advance 1)

/-- `$B8` `CLV` (R435). -/
def execClv (s : State) : StepResult := .next ((s.setFlags { s.p with v := false }).advance 1)

/-- `$38` `SEC` (R436). -/
def execSec (s : State) : StepResult := .next ((s.setFlags { s.p with c := true }).advance 1)

/-- `$F8` `SED` (R437). -/
def execSed (s : State) : StepResult := .next ((s.setFlags { s.p with d := true }).advance 1)

/-- `$03` `SEE` (R438). -/
def execSee (s : State) : StepResult := .next ((s.setFlags { s.p with e := true }).advance 1)

/-- `$78` `SEI` (R439). -/
def execSei (s : State) : StepResult := .next ((s.setFlags { s.p with i := true }).advance 1)

/-- `$00` `BRK` (R440; R501, R508). -/
def execBrk (s : State) : StepResult := .next (s.entry (s.pc + 2) true 0xFFFE)

/-- `$40` `RTI` (R441; R511). -/
def execRti (s : State) : StepResult := .next (s.entryReturn)

/-- `$5C` `MAP` (R446). -/
def execMap (s : State) : StepResult :=
  .next (((s.setMapState (mapLatch s.a s.x s.y s.z s.mapState)).setMapInhibit true).advance 1)

/-- `$EA` `EOM` (R447). -/
def execEom (s : State) : StepResult := .next (((s.setMapInhibit false).setEomPrefix true).advance 1)

end Sys2Proof.Machine
end

