-- ==== Sys2Proof/Machine/Dispatch.lean ====
section
/-! DEFINITION. From an instruction to its meaning: one arm per constructor. -/
namespace Sys2Proof.Machine

def exec (i : Instr) (s : State) : Host.Outcome State Fault Refusal :=
  match i with
  | .brk => Sys2Proof.Machine.execBrk s
  | .oraIndx nn => Sys2Proof.Machine.execOraIndx nn s
  | .cle => Sys2Proof.Machine.execCle s
  | .see => Sys2Proof.Machine.execSee s
  | .tsbBp nn => Sys2Proof.Machine.execTsbBp nn s
  | .oraBp nn => Sys2Proof.Machine.execOraBp nn s
  | .aslBp nn => Sys2Proof.Machine.execAslBp nn s
  | .rmb0 nn => Sys2Proof.Machine.execRmb0 nn s
  | .php => Sys2Proof.Machine.execPhp s
  | .oraImm nn => Sys2Proof.Machine.execOraImm nn s
  | .aslAcc => Sys2Proof.Machine.execAslAcc s
  | .tsy => Sys2Proof.Machine.execTsy s
  | .tsbAbs nnnn => Sys2Proof.Machine.execTsbAbs nnnn s
  | .oraAbs nnnn => Sys2Proof.Machine.execOraAbs nnnn s
  | .aslAbs nnnn => Sys2Proof.Machine.execAslAbs nnnn s
  | .bbr0 nn rr => Sys2Proof.Machine.execBbr0 nn rr s
  | .bplRel rr => Sys2Proof.Machine.execBplRel rr s
  | .oraIndy nn => Sys2Proof.Machine.execOraIndy nn s
  | .oraIndz nn => Sys2Proof.Machine.execOraIndz nn s
  | .bplRelw rrrr => Sys2Proof.Machine.execBplRelw rrrr s
  | .trbBp nn => Sys2Proof.Machine.execTrbBp nn s
  | .oraBpx nn => Sys2Proof.Machine.execOraBpx nn s
  | .aslBpx nn => Sys2Proof.Machine.execAslBpx nn s
  | .rmb1 nn => Sys2Proof.Machine.execRmb1 nn s
  | .clc => Sys2Proof.Machine.execClc s
  | .oraAbsy nnnn => Sys2Proof.Machine.execOraAbsy nnnn s
  | .incAcc => Sys2Proof.Machine.execIncAcc s
  | .inz => Sys2Proof.Machine.execInz s
  | .trbAbs nnnn => Sys2Proof.Machine.execTrbAbs nnnn s
  | .oraAbsx nnnn => Sys2Proof.Machine.execOraAbsx nnnn s
  | .aslAbsx nnnn => Sys2Proof.Machine.execAslAbsx nnnn s
  | .bbr1 nn rr => Sys2Proof.Machine.execBbr1 nn rr s
  | .jsrAbs nnnn => Sys2Proof.Machine.execJsrAbs nnnn s
  | .andIndx nn => Sys2Proof.Machine.execAndIndx nn s
  | .jsrAbsind nnnn => Sys2Proof.Machine.execJsrAbsind nnnn s
  | .jsrAbsindx nnnn => Sys2Proof.Machine.execJsrAbsindx nnnn s
  | .bitBp nn => Sys2Proof.Machine.execBitBp nn s
  | .andBp nn => Sys2Proof.Machine.execAndBp nn s
  | .rolBp nn => Sys2Proof.Machine.execRolBp nn s
  | .rmb2 nn => Sys2Proof.Machine.execRmb2 nn s
  | .plp => Sys2Proof.Machine.execPlp s
  | .andImm nn => Sys2Proof.Machine.execAndImm nn s
  | .rolAcc => Sys2Proof.Machine.execRolAcc s
  | .tys => Sys2Proof.Machine.execTys s
  | .bitAbs nnnn => Sys2Proof.Machine.execBitAbs nnnn s
  | .andAbs nnnn => Sys2Proof.Machine.execAndAbs nnnn s
  | .rolAbs nnnn => Sys2Proof.Machine.execRolAbs nnnn s
  | .bbr2 nn rr => Sys2Proof.Machine.execBbr2 nn rr s
  | .bmiRel rr => Sys2Proof.Machine.execBmiRel rr s
  | .andIndy nn => Sys2Proof.Machine.execAndIndy nn s
  | .andIndz nn => Sys2Proof.Machine.execAndIndz nn s
  | .bmiRelw rrrr => Sys2Proof.Machine.execBmiRelw rrrr s
  | .bitBpx nn => Sys2Proof.Machine.execBitBpx nn s
  | .andBpx nn => Sys2Proof.Machine.execAndBpx nn s
  | .rolBpx nn => Sys2Proof.Machine.execRolBpx nn s
  | .rmb3 nn => Sys2Proof.Machine.execRmb3 nn s
  | .sec => Sys2Proof.Machine.execSec s
  | .andAbsy nnnn => Sys2Proof.Machine.execAndAbsy nnnn s
  | .decAcc => Sys2Proof.Machine.execDecAcc s
  | .dez => Sys2Proof.Machine.execDez s
  | .bitAbsx nnnn => Sys2Proof.Machine.execBitAbsx nnnn s
  | .andAbsx nnnn => Sys2Proof.Machine.execAndAbsx nnnn s
  | .rolAbsx nnnn => Sys2Proof.Machine.execRolAbsx nnnn s
  | .bbr3 nn rr => Sys2Proof.Machine.execBbr3 nn rr s
  | .rti => Sys2Proof.Machine.execRti s
  | .eorIndx nn => Sys2Proof.Machine.execEorIndx nn s
  | .neg => Sys2Proof.Machine.execNeg s
  | .asrAcc => Sys2Proof.Machine.execAsrAcc s
  | .asrBp nn => Sys2Proof.Machine.execAsrBp nn s
  | .eorBp nn => Sys2Proof.Machine.execEorBp nn s
  | .lsrBp nn => Sys2Proof.Machine.execLsrBp nn s
  | .rmb4 nn => Sys2Proof.Machine.execRmb4 nn s
  | .pha => Sys2Proof.Machine.execPha s
  | .eorImm nn => Sys2Proof.Machine.execEorImm nn s
  | .lsrAcc => Sys2Proof.Machine.execLsrAcc s
  | .taz => Sys2Proof.Machine.execTaz s
  | .jmpAbs nnnn => Sys2Proof.Machine.execJmpAbs nnnn s
  | .eorAbs nnnn => Sys2Proof.Machine.execEorAbs nnnn s
  | .lsrAbs nnnn => Sys2Proof.Machine.execLsrAbs nnnn s
  | .bbr4 nn rr => Sys2Proof.Machine.execBbr4 nn rr s
  | .bvcRel rr => Sys2Proof.Machine.execBvcRel rr s
  | .eorIndy nn => Sys2Proof.Machine.execEorIndy nn s
  | .eorIndz nn => Sys2Proof.Machine.execEorIndz nn s
  | .bvcRelw rrrr => Sys2Proof.Machine.execBvcRelw rrrr s
  | .asrBpx nn => Sys2Proof.Machine.execAsrBpx nn s
  | .eorBpx nn => Sys2Proof.Machine.execEorBpx nn s
  | .lsrBpx nn => Sys2Proof.Machine.execLsrBpx nn s
  | .rmb5 nn => Sys2Proof.Machine.execRmb5 nn s
  | .cli => Sys2Proof.Machine.execCli s
  | .eorAbsy nnnn => Sys2Proof.Machine.execEorAbsy nnnn s
  | .phy => Sys2Proof.Machine.execPhy s
  | .tab => Sys2Proof.Machine.execTab s
  | .map => Sys2Proof.Machine.execMap s
  | .eorAbsx nnnn => Sys2Proof.Machine.execEorAbsx nnnn s
  | .lsrAbsx nnnn => Sys2Proof.Machine.execLsrAbsx nnnn s
  | .bbr5 nn rr => Sys2Proof.Machine.execBbr5 nn rr s
  | .rts => Sys2Proof.Machine.execRts s
  | .adcIndx nn => Sys2Proof.Machine.execAdcIndx nn s
  | .rtsImm nn => Sys2Proof.Machine.execRtsImm nn s
  | .bsr rrrr => Sys2Proof.Machine.execBsr rrrr s
  | .stzBp nn => Sys2Proof.Machine.execStzBp nn s
  | .adcBp nn => Sys2Proof.Machine.execAdcBp nn s
  | .rorBp nn => Sys2Proof.Machine.execRorBp nn s
  | .rmb6 nn => Sys2Proof.Machine.execRmb6 nn s
  | .pla => Sys2Proof.Machine.execPla s
  | .adcImm nn => Sys2Proof.Machine.execAdcImm nn s
  | .rorAcc => Sys2Proof.Machine.execRorAcc s
  | .tza => Sys2Proof.Machine.execTza s
  | .jmpAbsind nnnn => Sys2Proof.Machine.execJmpAbsind nnnn s
  | .adcAbs nnnn => Sys2Proof.Machine.execAdcAbs nnnn s
  | .rorAbs nnnn => Sys2Proof.Machine.execRorAbs nnnn s
  | .bbr6 nn rr => Sys2Proof.Machine.execBbr6 nn rr s
  | .bvsRel rr => Sys2Proof.Machine.execBvsRel rr s
  | .adcIndy nn => Sys2Proof.Machine.execAdcIndy nn s
  | .adcIndz nn => Sys2Proof.Machine.execAdcIndz nn s
  | .bvsRelw rrrr => Sys2Proof.Machine.execBvsRelw rrrr s
  | .stzBpx nn => Sys2Proof.Machine.execStzBpx nn s
  | .adcBpx nn => Sys2Proof.Machine.execAdcBpx nn s
  | .rorBpx nn => Sys2Proof.Machine.execRorBpx nn s
  | .rmb7 nn => Sys2Proof.Machine.execRmb7 nn s
  | .sei => Sys2Proof.Machine.execSei s
  | .adcAbsy nnnn => Sys2Proof.Machine.execAdcAbsy nnnn s
  | .ply => Sys2Proof.Machine.execPly s
  | .tba => Sys2Proof.Machine.execTba s
  | .jmpAbsindx nnnn => Sys2Proof.Machine.execJmpAbsindx nnnn s
  | .adcAbsx nnnn => Sys2Proof.Machine.execAdcAbsx nnnn s
  | .rorAbsx nnnn => Sys2Proof.Machine.execRorAbsx nnnn s
  | .bbr7 nn rr => Sys2Proof.Machine.execBbr7 nn rr s
  | .braRel rr => Sys2Proof.Machine.execBraRel rr s
  | .staIndx nn => Sys2Proof.Machine.execStaIndx nn s
  | .staIndspy nn => Sys2Proof.Machine.execStaIndspy nn s
  | .braRelw rrrr => Sys2Proof.Machine.execBraRelw rrrr s
  | .styBp nn => Sys2Proof.Machine.execStyBp nn s
  | .staBp nn => Sys2Proof.Machine.execStaBp nn s
  | .stxBp nn => Sys2Proof.Machine.execStxBp nn s
  | .smb0 nn => Sys2Proof.Machine.execSmb0 nn s
  | .dey => Sys2Proof.Machine.execDey s
  | .bitImm nn => Sys2Proof.Machine.execBitImm nn s
  | .txa => Sys2Proof.Machine.execTxa s
  | .styAbsx nnnn => Sys2Proof.Machine.execStyAbsx nnnn s
  | .styAbs nnnn => Sys2Proof.Machine.execStyAbs nnnn s
  | .staAbs nnnn => Sys2Proof.Machine.execStaAbs nnnn s
  | .stxAbs nnnn => Sys2Proof.Machine.execStxAbs nnnn s
  | .bbs0 nn rr => Sys2Proof.Machine.execBbs0 nn rr s
  | .bccRel rr => Sys2Proof.Machine.execBccRel rr s
  | .staIndy nn => Sys2Proof.Machine.execStaIndy nn s
  | .staIndz nn => Sys2Proof.Machine.execStaIndz nn s
  | .bccRelw rrrr => Sys2Proof.Machine.execBccRelw rrrr s
  | .styBpx nn => Sys2Proof.Machine.execStyBpx nn s
  | .staBpx nn => Sys2Proof.Machine.execStaBpx nn s
  | .stxBpy nn => Sys2Proof.Machine.execStxBpy nn s
  | .smb1 nn => Sys2Proof.Machine.execSmb1 nn s
  | .tya => Sys2Proof.Machine.execTya s
  | .staAbsy nnnn => Sys2Proof.Machine.execStaAbsy nnnn s
  | .txs => Sys2Proof.Machine.execTxs s
  | .stxAbsy nnnn => Sys2Proof.Machine.execStxAbsy nnnn s
  | .stzAbs nnnn => Sys2Proof.Machine.execStzAbs nnnn s
  | .staAbsx nnnn => Sys2Proof.Machine.execStaAbsx nnnn s
  | .stzAbsx nnnn => Sys2Proof.Machine.execStzAbsx nnnn s
  | .bbs1 nn rr => Sys2Proof.Machine.execBbs1 nn rr s
  | .ldyImm nn => Sys2Proof.Machine.execLdyImm nn s
  | .ldaIndx nn => Sys2Proof.Machine.execLdaIndx nn s
  | .ldxImm nn => Sys2Proof.Machine.execLdxImm nn s
  | .ldzImm nn => Sys2Proof.Machine.execLdzImm nn s
  | .ldyBp nn => Sys2Proof.Machine.execLdyBp nn s
  | .ldaBp nn => Sys2Proof.Machine.execLdaBp nn s
  | .ldxBp nn => Sys2Proof.Machine.execLdxBp nn s
  | .smb2 nn => Sys2Proof.Machine.execSmb2 nn s
  | .tay => Sys2Proof.Machine.execTay s
  | .ldaImm nn => Sys2Proof.Machine.execLdaImm nn s
  | .tax => Sys2Proof.Machine.execTax s
  | .ldzAbs nnnn => Sys2Proof.Machine.execLdzAbs nnnn s
  | .ldyAbs nnnn => Sys2Proof.Machine.execLdyAbs nnnn s
  | .ldaAbs nnnn => Sys2Proof.Machine.execLdaAbs nnnn s
  | .ldxAbs nnnn => Sys2Proof.Machine.execLdxAbs nnnn s
  | .bbs2 nn rr => Sys2Proof.Machine.execBbs2 nn rr s
  | .bcsRel rr => Sys2Proof.Machine.execBcsRel rr s
  | .ldaIndy nn => Sys2Proof.Machine.execLdaIndy nn s
  | .ldaIndz nn => Sys2Proof.Machine.execLdaIndz nn s
  | .bcsRelw rrrr => Sys2Proof.Machine.execBcsRelw rrrr s
  | .ldyBpx nn => Sys2Proof.Machine.execLdyBpx nn s
  | .ldaBpx nn => Sys2Proof.Machine.execLdaBpx nn s
  | .ldxBpy nn => Sys2Proof.Machine.execLdxBpy nn s
  | .smb3 nn => Sys2Proof.Machine.execSmb3 nn s
  | .clv => Sys2Proof.Machine.execClv s
  | .ldaAbsy nnnn => Sys2Proof.Machine.execLdaAbsy nnnn s
  | .tsx => Sys2Proof.Machine.execTsx s
  | .ldzAbsx nnnn => Sys2Proof.Machine.execLdzAbsx nnnn s
  | .ldyAbsx nnnn => Sys2Proof.Machine.execLdyAbsx nnnn s
  | .ldaAbsx nnnn => Sys2Proof.Machine.execLdaAbsx nnnn s
  | .ldxAbsy nnnn => Sys2Proof.Machine.execLdxAbsy nnnn s
  | .bbs3 nn rr => Sys2Proof.Machine.execBbs3 nn rr s
  | .cpyImm nn => Sys2Proof.Machine.execCpyImm nn s
  | .cmpIndx nn => Sys2Proof.Machine.execCmpIndx nn s
  | .cpzImm nn => Sys2Proof.Machine.execCpzImm nn s
  | .dew nn => Sys2Proof.Machine.execDew nn s
  | .cpyBp nn => Sys2Proof.Machine.execCpyBp nn s
  | .cmpBp nn => Sys2Proof.Machine.execCmpBp nn s
  | .decBp nn => Sys2Proof.Machine.execDecBp nn s
  | .smb4 nn => Sys2Proof.Machine.execSmb4 nn s
  | .iny => Sys2Proof.Machine.execIny s
  | .cmpImm nn => Sys2Proof.Machine.execCmpImm nn s
  | .dex => Sys2Proof.Machine.execDex s
  | .asw nnnn => Sys2Proof.Machine.execAsw nnnn s
  | .cpyAbs nnnn => Sys2Proof.Machine.execCpyAbs nnnn s
  | .cmpAbs nnnn => Sys2Proof.Machine.execCmpAbs nnnn s
  | .decAbs nnnn => Sys2Proof.Machine.execDecAbs nnnn s
  | .bbs4 nn rr => Sys2Proof.Machine.execBbs4 nn rr s
  | .bneRel rr => Sys2Proof.Machine.execBneRel rr s
  | .cmpIndy nn => Sys2Proof.Machine.execCmpIndy nn s
  | .cmpIndz nn => Sys2Proof.Machine.execCmpIndz nn s
  | .bneRelw rrrr => Sys2Proof.Machine.execBneRelw rrrr s
  | .cpzBp nn => Sys2Proof.Machine.execCpzBp nn s
  | .cmpBpx nn => Sys2Proof.Machine.execCmpBpx nn s
  | .decBpx nn => Sys2Proof.Machine.execDecBpx nn s
  | .smb5 nn => Sys2Proof.Machine.execSmb5 nn s
  | .cld => Sys2Proof.Machine.execCld s
  | .cmpAbsy nnnn => Sys2Proof.Machine.execCmpAbsy nnnn s
  | .phx => Sys2Proof.Machine.execPhx s
  | .phz => Sys2Proof.Machine.execPhz s
  | .cpzAbs nnnn => Sys2Proof.Machine.execCpzAbs nnnn s
  | .cmpAbsx nnnn => Sys2Proof.Machine.execCmpAbsx nnnn s
  | .decAbsx nnnn => Sys2Proof.Machine.execDecAbsx nnnn s
  | .bbs5 nn rr => Sys2Proof.Machine.execBbs5 nn rr s
  | .cpxImm nn => Sys2Proof.Machine.execCpxImm nn s
  | .sbcIndx nn => Sys2Proof.Machine.execSbcIndx nn s
  | .ldaIndspy nn => Sys2Proof.Machine.execLdaIndspy nn s
  | .inw nn => Sys2Proof.Machine.execInw nn s
  | .cpxBp nn => Sys2Proof.Machine.execCpxBp nn s
  | .sbcBp nn => Sys2Proof.Machine.execSbcBp nn s
  | .incBp nn => Sys2Proof.Machine.execIncBp nn s
  | .smb6 nn => Sys2Proof.Machine.execSmb6 nn s
  | .inx => Sys2Proof.Machine.execInx s
  | .sbcImm nn => Sys2Proof.Machine.execSbcImm nn s
  | .eom => Sys2Proof.Machine.execEom s
  | .row nnnn => Sys2Proof.Machine.execRow nnnn s
  | .cpxAbs nnnn => Sys2Proof.Machine.execCpxAbs nnnn s
  | .sbcAbs nnnn => Sys2Proof.Machine.execSbcAbs nnnn s
  | .incAbs nnnn => Sys2Proof.Machine.execIncAbs nnnn s
  | .bbs6 nn rr => Sys2Proof.Machine.execBbs6 nn rr s
  | .beqRel rr => Sys2Proof.Machine.execBeqRel rr s
  | .sbcIndy nn => Sys2Proof.Machine.execSbcIndy nn s
  | .sbcIndz nn => Sys2Proof.Machine.execSbcIndz nn s
  | .beqRelw rrrr => Sys2Proof.Machine.execBeqRelw rrrr s
  | .phwImmw nnnn => Sys2Proof.Machine.execPhwImmw nnnn s
  | .sbcBpx nn => Sys2Proof.Machine.execSbcBpx nn s
  | .incBpx nn => Sys2Proof.Machine.execIncBpx nn s
  | .smb7 nn => Sys2Proof.Machine.execSmb7 nn s
  | .sed => Sys2Proof.Machine.execSed s
  | .sbcAbsy nnnn => Sys2Proof.Machine.execSbcAbsy nnnn s
  | .plx => Sys2Proof.Machine.execPlx s
  | .plz => Sys2Proof.Machine.execPlz s
  | .phwAbs nnnn => Sys2Proof.Machine.execPhwAbs nnnn s
  | .sbcAbsx nnnn => Sys2Proof.Machine.execSbcAbsx nnnn s
  | .incAbsx nnnn => Sys2Proof.Machine.execIncAbsx nnnn s
  | .bbs7 nn rr => Sys2Proof.Machine.execBbs7 nn rr s

end Sys2Proof.Machine
end

