-- ==== Sys2Proof/Machine/Interrupts.lean ====
section
/-! DEFINITION. The environment's inputs, interrupt recognition (`60_exceptions.md` rules R504 to R509) and reset
(`70_reset_and_hazards.md` rules R560, R561). -/
namespace Sys2Proof.Machine

/-- The vector of NMI (R509). Log entry 17. -/
def nmiVector : Addr := 0xFFFA

/-- The reset vector (R561). Log entry 10. -/
def resetVector : Addr := 0xFFFC

/-- The vector of IRQ, which BRK shares (R509). -/
def irqVector : Addr := 0xFFFE

/-- What the environment does at this step; when the list has ended, it signals nothing (R505). Log entry 11. -/
def State.currentInput (s : State) : EnvInput := s.inputs.headD (.signals false false)

/-- The state once this step's input has been taken from the list. -/
def State.inputTaken (s : State) : State := s.setInputs s.inputs.tail

/-- `if NmiEvent: nmi_pending <- 1` (R505): an event is latched, and two count as one. -/
def State.latchNmi (s : State) (nmiEvent : Bool) : State := s.setNmiPending (s.nmiPending || nmiEvent)

/-- The two interrupts. -/
inductive Interrupt where
  | nmi
  | irq
deriving DecidableEq, Repr

/-- Which interrupt is taken at a recognition point (R504, R506, R507): none right after EOM unless
`EOM_PREFIX_INTERRUPTIBLE`, none while MAP inhibits, NMI before IRQ, IRQ only with `P.I` 0. -/
def State.recognised (s : State) (irqLine : Bool) : Option Interrupt :=
  if s.eomPrefix && !s.params.eomPrefixInterruptible then none
  else if s.mapInhibit then none
  else if s.nmiPending then some .nmi
  else if irqLine && !s.p.i then some .irq
  else none

/-- The entry of an interrupt: the address of the next instruction is pushed, and the Break bit as 0 (R506, R508). -/
def State.takeInterrupt (s : State) : Interrupt → State
  | .nmi => (s.setNmiPending false).entry s.pc false nmiVector
  | .irq => s.entry s.pc false irqVector

/-- Reset (R560): nothing is saved, memory is not changed, the program counter is read through the reset map. Log
entries 9, 10 and 12. -/
def State.applyReset (s : State) (r : ResetState) : State :=
  let t : State :=
    { s with
      a := r.a, x := r.x, y := r.y, z := 0x00, b := 0x00, sph := 0x01, spl := r.spl
      p := { n := r.n, v := r.v, e := true, d := r.d, i := true, z := r.z, c := r.c }
      mapInhibit := false, eomPrefix := false, nmiPending := false, mapState := mapReset s.mapState }
  t.setPc (t.readWord resetVector)

end Sys2Proof.Machine
end

