-- ==== Sys2Proof/Machine/Cycle.lean ====
section
/-! DEFINITION. The instruction cycle (`30_encoding.md` rule R110) inside the step with interrupts
(`60_exceptions.md` rule R506). -/
namespace Sys2Proof.Machine

/-- The bytes of the instruction at the program counter: the opcode, then as many operand bytes as it asks for, by
rising address, which wraps (R101, R110). -/
def State.fetchCode (s : State) : List Byte :=
  let op := s.fetchByte s.pc
  op :: (List.range (lengthOfOpcode op - 1)).map fun k => s.fetchByte (s.pc + BitVec.ofNat 16 (k + 1))

/-- `eom_prefix <- (1 if mnemonic == EOM else 0)`, once the instruction has completed (R39, R110). -/
def finishInstruction (i : Instr) : StepResult → StepResult
  | .next t => .next (t.setEomPrefix (i.opcode == 0xEA))
  | .fault r => .fault r
  | .refused r => .refused r

/-- One instruction: fetch, decode, execute (R110). -/
def instructionStep (s : State) : StepResult :=
  match decode s.fetchCode with
  | .error e => .fault (.undecodable e)
  | .ok (i, _) => finishInstruction i (exec i s)

/-- The step once this step's input is taken and an NMI event latched: an interrupt entry, which is a step of its
own, or one instruction (R506). -/
def recognitionStep (irqLine : Bool) (s : State) : StepResult :=
  match s.recognised irqLine with
  | some w => .next (s.takeInterrupt w)
  | none => instructionStep s

/-- One step of the machine (R11, R506). -/
def processorStep (s : State) : StepResult :=
  match s.currentInput with
  | .reset r => .next (s.inputTaken.applyReset r)
  | .signals irqLine nmiEvent => recognitionStep irqLine (s.inputTaken.latchNmi nmiEvent)

/-- The environment does nothing at the next step, and no NMI is pending: the next step is one instruction. -/
def State.quiet (s : State) : State :=
  (s.setInputs (match s.inputs with | [] => [] | _ :: rest => .signals false false :: rest)).setNmiPending false

/-- `code` stored where the instruction fetch reads, from the program counter on, first byte first. -/
def State.placeCode (s : State) : List Byte → Addr → State
  | [], _ => s
  | v :: rest, addr => (s.flatWrite (translate s.mapState .fetch addr) v).placeCode rest (addr + 1)

end Sys2Proof.Machine
end

