-- ==== Sys2Proof/Machine/Step.lean ====
section
/-! DEFINITION. The step of the machine, and the placing of an instruction where the step fetches it. -/
namespace Sys2Proof.Machine

/-- One step: a reset, an interrupt entry or one instruction (R11, R506). -/
def step (s : State) : Host.Outcome State Fault Refusal := processorStep s

/-- `s` with an instruction of the opcode table stored at the program counter, and with no interrupt or reset at the
next step, so that the next step fetches and runs that instruction. Log entry 13. -/
def State.withFetchWord (s : State) (nbits w : Nat) : State := s.quiet.placeCode (tableBytes nbits w) s.pc

end Sys2Proof.Machine
end

