-- ==== Sys2Proof/WellFormed.lean ====
section
/-! DEFINITION. Well-formedness. Every value of every operand byte is legal (`30_encoding.md` rule R107) and every
operand of `Instr` has exactly the width of its field, so every term of `Instr` is a well-formed instruction and
there is nothing to check of one. What can be ill-formed is a choice of the parameters of rule R6. -/
namespace Sys2Proof

/-- `REL16_BASE` is 2 or 3 (R6). -/
def Params.rel16BaseLegal (c : Params) : Bool := c.rel16Base == 2 || c.rel16Base == 3

/-- `FLAT_ADDR_BITS` is at most 32 (R6, R60). -/
def Params.flatAddrBitsLegal (c : Params) : Bool := decide (c.flatAddrBits ≤ 32)

/-- The parameters have values that rule R6 allows. -/
def Params.wellFormed (c : Params) : Bool := c.rel16BaseLegal && c.flatAddrBitsLegal

end Sys2Proof
end

