-- ==== Sys2Proof/Safety.lean ====
section
/-! DEFINITION. What the statements about the machine are written with: the invariant of every state, a run that
does not stop, and what memory reads as after a list of byte writes. -/
namespace Sys2Proof.Machine

/-- Every listed address is a location of the flat address space (R60, R64). -/
def State.memInSpace (s : State) : Bool := s.mem.all fun c => decide (c.1 < 2 ^ s.params.flatAddrBits)

/-- The invariant: memory is in its one canonical form and lies in the flat address space, and the parameters have
values that rule R6 allows. -/
def State.inv (s : State) : Bool := s.mem.wf && s.memInSpace && s.params.wellFormed

/-- A run of `k` steps from `s` neither faults nor is refused. -/
def State.runsFor (s : State) (k : Nat) : Prop := ∃ t, Host.Core.run core k s = .next t

/-- A run ends when the program counter equals a stop address, before the instruction there executes (R11, D37); an
executor runs under fuel. -/
def runUntil (stop : Addr) : Nat → State → StepResult
  | 0, s => .next s
  | k + 1, s =>
    if s.pc = stop then .next s
    else
      match step s with
      | .next t => runUntil stop k t
      | .fault r => .fault r
      | .refused r => .refused r

/-- What address `k` reads as when the listed bytes are written over `m`, the first first: a later write to the same
location wins. -/
def readOver (m : Memory) (writes : List (Nat × Byte)) (k : Nat) : Byte :=
  writes.foldl (fun v w => if w.1 = k then w.2 else v) (m.read k)

/-- From `s`, the memory of `t` is that of `s` with the listed bytes written and nothing else: every location reads
as the list says. -/
def State.wroteOnly (s t : State) (writes : List (Nat × Byte)) : Prop :=
  ∀ k, t.mem.read k = readOver s.mem writes k

end Sys2Proof.Machine
end

