-- ==== Sys2Proof/Certificates/Slice0/Obligations.lean ====
section
/-! DEFINITION. The statements for the provers. Each says what an instruction or the machine does; the entry of the
same name in `OBLIGATIONS.json` gives its rules. A statement that rests on a choice of the spec's or of the model's
names the log entry. Every instruction is in one statement at least whose conclusion is that it completes. -/

open Sys2Proof Sys2Proof.Machine

/-- Fourteen instructions of the spec's examples and of its opcode map, one or more of every family, written out
byte by byte, decode to the instruction the spec gives them, with the operand bytes in the order of R104 (the
order is the spec's decision D13, log entry 16) and nothing left over. -/
def Obligations.WordsWrittenOutFromTheSpecDecode : Prop :=
  decode [0x00] = .ok (.brk, []) ∧ decode [0x0F, 0x10, 0x05] = .ok (.bbr0 0x10 0x05, []) ∧
  decode [0x69, 0x46] = .ok (.adcImm 0x46, []) ∧ decode [0xB2, 0x40] = .ok (.ldaIndz 0x40, []) ∧
  decode [0x82, 0x01] = .ok (.staIndspy 0x01, []) ∧ decode [0x8B, 0x00, 0x30] = .ok (.styAbsx 0x3000, []) ∧
  decode [0x9B, 0x00, 0x30] = .ok (.stxAbsy 0x3000, []) ∧ decode [0xBA] = .ok (.tsx, []) ∧
  decode [0xCB, 0x34, 0x12] = .ok (.asw 0x1234, []) ∧ decode [0x93, 0xFD, 0xFF] = .ok (.bccRelw 0xFFFD, []) ∧
  decode [0x7C, 0x00, 0x30] = .ok (.jmpAbsindx 0x3000, []) ∧ decode [0xF4, 0x34, 0x12] = .ok (.phwImmw 0x1234, []) ∧
  decode [0x5C] = .ok (.map, []) ∧ decode [0xEA] = .ok (.eom, [])

/-- For every instruction, with every operand at every value, and every string of bytes after it, decoding its
encoding followed by that string answers the instruction and that string. Every value of every operand byte is
legal (R107), so every term of Instr is a well-formed instruction. -/
def Obligations.DecodingAnEncodedInstructionGivesItBack : Prop :=
  ∀ (i : Instr) (rest : List Byte), decode (encode i ++ rest) = .ok (i, rest)

/-- If the decoder reads an instruction from a string of bytes, that string is the encoding of the instruction
followed by what the decoder left over: no bit of the bytes read is dropped, and no two strings of bytes read as
the same instruction. -/
def Obligations.DecodingDropsNoByte : Prop :=
  ∀ (code : List Byte) (i : Instr) (rest : List Byte), decode code = .ok (i, rest) → code = encode i ++ rest

/-- For every first byte and every two bytes after it the decoder answers an instruction whose opcode is that first
byte: there is no illegal, reserved or undefined opcode, and every value of every operand byte is legal. -/
def Obligations.EveryFirstByteIsAnInstruction : Prop :=
  ∀ (op op1 op2 : Byte) (rest : List Byte),
    ∃ i left, decode (op :: op1 :: op2 :: rest) = .ok (i, left) ∧ i.opcode = op

/-- If the decoder reads an instruction from a string of bytes, its opcode is the first of them, the bytes it takes
are as many as that first byte asks for, that number is 1, 2 or 3, and the bytes left over are the rest of the
string. -/
def Obligations.TheFirstByteFixesTheLength : Prop :=
  ∀ (code : List Byte) (i : Instr) (rest : List Byte), decode code = .ok (i, rest) →
    code.head? = some i.opcode ∧ rest = code.drop (lengthOfOpcode i.opcode) ∧
      code.length = lengthOfOpcode i.opcode + rest.length ∧
      1 ≤ lengthOfOpcode i.opcode ∧ lengthOfOpcode i.opcode ≤ 3

/-- Take a step at which the environment signals a line level and an NMI event (no reset) and at which the masks
admit no interrupt: it follows EOM, or MAP inhibits, or no NMI is pending or signalled and the IRQ line is false
or masked. If the bytes fetched from the program counter on decode to i, and exec of i at the state with this
step's input consumed and the NMI event latched answers t, the step answers t with eom_prefix set exactly when i
is EOM. -/
def Obligations.StepRunsTheDecodedInstruction : Prop :=
  ∀ (s t : State) (irqLine nmiEvent : Bool) (i : Instr) (rest : List Byte),
    s.currentInput = .signals irqLine nmiEvent →
    ((s.eomPrefix = true ∧ s.params.eomPrefixInterruptible = false) ∨ s.mapInhibit = true ∨
      ((s.nmiPending || nmiEvent) = false ∧ (irqLine = false ∨ s.p.i = true))) →
    decode s.fetchCode = .ok (i, rest) →
    exec i { s with inputs := s.inputs.tail, nmiPending := s.nmiPending || nmiEvent } = .next t →
    step s = .next { t with eomPrefix := decide (i.opcode = 0xEA) }

/-- For every state whose memory is in the one canonical form (addresses strictly rising, no entry equal to what an
unlisted address reads as), whose listed addresses are locations of the flat address space, and whose parameters
have values that R6 allows: if step answers a next state, that state has all three properties. -/
def Obligations.EveryStepKeepsTheInvariant : Prop :=
  ∀ s t : State, s.inv = true → step s = .next t → t.inv = true

/-- The memory of State.reset is in canonical form and inside the flat address space, and its parameters have values
that R6 allows. -/
def Obligations.ResetMeetsTheInvariant : Prop :=
  Machine.State.reset.inv = true

/-- For every state, reached or not, and every number of steps, running that many steps of the machine answers a
next state: it is never stuck and never faults. That the processor always has a next step is the spec's own
framing in R11 (c), read from R107 and R519. -/
def Obligations.TheMachineIsNeverStuck : Prop :=
  ∀ (s : State) (k : Nat), s.runsFor k

/-- If two memories are in the canonical form and every address reads the same in both, they are the same list:
equal memories are equal data. The form is the model's own (what an unlisted address reads as is log entry 8). -/
def Obligations.MemoriesThatReadTheSameAreTheSame : Prop :=
  ∀ m m' : Memory, m.wf = true → m'.wf = true → (∀ k, m.read k = m'.read k) → m = m'

/-- If step answers a next state, the parameters REL16_BASE, FLAT_ADDR_BITS, RTS_IMM_ADJUST_FIRST and
EOM_PREFIX_INTERRUPTIBLE are what they were: they are the model's own field (log entries 1 to 4), an argument
and not a state of the machine. -/
def Obligations.NoStepChangesTheParameters : Prop :=
  ∀ s t : State, step s = .next t → t.params = s.params

/-- Where the environment applies reset at a step, the step answers the state with Z = $00, B = $00, SPH = $01, P.I
= P.E = 1, the three hidden bits 0, the map at its reset value, A, X, Y, SPL and the flags N, V, D, Z, C at the
values the event carries (unspecified: any values), and PC the word at $FFFC read through the reset map; memory,
the parameters and the count of draws are what they were. Every value is the spec's own decision D20 (log
entries 9, 10, 12). -/
def Obligations.ResetEventSetsTheResetValues : Prop :=
  ∀ (s : State) (r : ResetState), s.currentInput = .reset r →
    ∃ t, step s = .next t ∧
      t = { s with
        a := r.a, x := r.x, y := r.y, z := 0x00, b := 0x00, sph := 0x01, spl := r.spl
        pc := wordOf (t.readByte 0xFFFD) (t.readByte 0xFFFC)
        p := { n := r.n, v := r.v, e := true, d := r.d, i := true, z := r.z, c := r.c }
        mapInhibit := false, eomPrefix := false, nmiPending := false
        mapState := mapReset s.mapState, inputs := s.inputs.tail }

/-- State.reset has Z = $00, B = $00, SPH = $01, P.I = P.E = 1, map_inhibit = eom_prefix = nmi_pending = 0 (the
spec's decision D20, log entry 10), the unmapped map (log entry 5), nothing in memory (log entry 8), PC the word
that unlisted memory holds at $FFFC (log entry 10), and A = X = Y = $00, SPL = $FF, N = V = D = Z = C = 0 (the
model's choice, log entry 9). -/
def Obligations.TheResetStateHoldsTheResetValues : Prop :=
  let s := Machine.State.reset
  s.z = 0x00 ∧ s.b = 0x00 ∧ s.sph = 0x01 ∧ s.p.i = true ∧ s.p.e = true ∧ s.mapInhibit = false ∧
    s.eomPrefix = false ∧ s.nmiPending = false ∧ s.mapState = .c65 0 0 0 0 ∧ s.mem = [] ∧
    s.pc = s.readWord 0xFFFC ∧ s.a = 0x00 ∧ s.x = 0x00 ∧ s.y = 0x00 ∧ s.spl = 0xFF ∧
    s.p.n = false ∧ s.p.v = false ∧ s.p.d = false ∧ s.p.z = false ∧ s.p.c = false

/-- Where an NMI is pending or signalled at a step, MAP does not inhibit and the step does not follow EOM (or
EOM_PREFIX_INTERRUPTIBLE is true), the step is the NMI entry, whatever the IRQ line and P.I: nmi_pending becomes
0 and three bytes are written, the high and the low byte of the return address and the flag byte with the Break
bit 0, at SP, SP - 1 and SP - 2 (a later write to the same location wins); SP moves down by three; P.I becomes
1, eom_prefix 0, and PC the word at the vector, read after the pushes; nothing else changes. The return address
is PC and the vector $FFFA. Priority, latch, vector and entry are the spec's decisions D16 to D19 and D24 (log
entry 17). -/
def Obligations.NmiIsTakenBeforeAnythingElse : Prop :=
  ∀ (s : State) (irqLine nmiEvent : Bool), s.currentInput = .signals irqLine nmiEvent →
    (s.nmiPending || nmiEvent) = true → s.mapInhibit = false →
    (s.eomPrefix = false ∨ s.params.eomPrefixInterruptible = true) →
    ∃ t, step s = .next t ∧
      t = { s with
        sph := (s.spAdd (-3)).sph, spl := (s.spAdd (-3)).spl, p := { s.p with i := true }
        eomPrefix := false, nmiPending := false, inputs := s.inputs.tail
        pc := wordOf (t.readByte 0xFFFB) (t.readByte 0xFFFA), mem := t.mem } ∧
      s.wroteOnly t
        [(s.progCell .write s.sp, hiByte s.pc), (s.progCell .write (s.spAdd (-1)).sp, loByte s.pc),
          (s.progCell .write (s.spAdd (-2)).sp, s.p.pbyte false)]

/-- Where the IRQ line is true at a step, P.I is 0, no NMI is pending or signalled, MAP does not inhibit and the
step does not follow EOM (or EOM_PREFIX_INTERRUPTIBLE is true), the step is the IRQ entry: three bytes are
written, the high and the low byte of the return address and the flag byte with the Break bit 0, at SP, SP - 1
and SP - 2 (a later write to the same location wins); SP moves down by three; P.I becomes 1, eom_prefix 0, and
PC the word at the vector, read after the pushes; nothing else changes. The return address is PC and the vector
$FFFE, BRK's. Level, priority and entry are the spec's decisions D16 to D19 and D24 (log entry 17). -/
def Obligations.IrqIsTakenWhenNothingMasksIt : Prop :=
  ∀ s : State, s.currentInput = .signals true false → s.nmiPending = false → s.p.i = false →
    s.mapInhibit = false → (s.eomPrefix = false ∨ s.params.eomPrefixInterruptible = true) →
    ∃ t, step s = .next t ∧
      t = { s with
        sph := (s.spAdd (-3)).sph, spl := (s.spAdd (-3)).spl, p := { s.p with i := true }
        eomPrefix := false, inputs := s.inputs.tail
        pc := wordOf (t.readByte 0xFFFF) (t.readByte 0xFFFE), mem := t.mem } ∧
      s.wroteOnly t
        [(s.progCell .write s.sp, hiByte s.pc), (s.progCell .write (s.spAdd (-1)).sp, loByte s.pc),
          (s.progCell .write (s.spAdd (-2)).sp, s.p.pbyte false)]

/-- If an NMI is pending before a step, or signalled at it, and none is pending after, then either the environment
applied reset at that step, or the step was one at which the NMI could be taken: MAP did not inhibit, and the
step did not follow EOM unless EOM_PREFIX_INTERRUPTIBLE is true. The latch is the spec's decision D18 (log entry
17). -/
def Obligations.AnNmiEventIsNotLost : Prop :=
  ∀ s t : State, step s = .next t →
    (s.nmiPending = true ∨ ∃ irqLine, s.currentInput = .signals irqLine true) → t.nmiPending = false →
    (∃ r, s.currentInput = .reset r) ∨
      (s.mapInhibit = false ∧ (s.eomPrefix = false ∨ s.params.eomPrefixInterruptible = true))

/-- Where a step with signals from the environment answers a next state, eom_prefix is 1 in it exactly when no
interrupt was recognised at that step and the byte fetched at the program counter was $EA. So the mark lasts for
one step: any other instruction, and any entry, clears it. The bit is the spec's own device for "the following
instruction" (R39). -/
def Obligations.TheEomMarkLastsOneStep : Prop :=
  ∀ (s t : State) (irqLine nmiEvent : Bool), s.currentInput = .signals irqLine nmiEvent → step s = .next t →
    (t.eomPrefix = true ↔
      ((s.inputTaken.latchNmi nmiEvent).recognised irqLine = none ∧ s.fetchByte s.pc = 0xEA))

/-- BRK completes in every state: three bytes are written, the high and the low byte of the return address and the
flag byte with the Break bit 1, at SP, SP - 1 and SP - 2 (a later write to the same location wins); SP moves
down by three; P.I becomes 1, eom_prefix 0, and PC the word at the vector, read after the pushes; nothing else
changes. The return address is the address of BRK plus 2 and the vector $FFFE. It is masked by nothing. Byte
order, flag layout and P.I are the spec's decisions (log entries 15, 17, 18). -/
def Obligations.BrkTakesTheTrap : Prop :=
  ∀ s : State, ∃ t, exec .brk s = .next t ∧
    t = { s with
      sph := (s.spAdd (-3)).sph, spl := (s.spAdd (-3)).spl, p := { s.p with i := true }, eomPrefix := false
      pc := wordOf (t.readByte 0xFFFF) (t.readByte 0xFFFE), mem := t.mem } ∧
    s.wroteOnly t
        [(s.progCell .write s.sp, hiByte (s.pc + 2)), (s.progCell .write (s.spAdd (-1)).sp, loByte (s.pc + 2)),
          (s.progCell .write (s.spAdd (-2)).sp, s.p.pbyte true)]

/-- RTI completes in every state: N, V, D, I, Z, C become bits 7, 6, 3, 2, 1, 0 of the byte at SP + 1, P.E is kept,
PC becomes the word whose low byte is at SP + 2 and high byte at SP + 3, and SP moves up by three; nothing else
changes. The bit places and the pull order are the spec's decisions D2, D5 and D6 (log entries 15, 18). -/
def Obligations.RtiRestoresFlagsAndProgramCounter : Prop :=
  ∀ s : State,
    let v := s.readByte (s.spAdd 1).sp
    exec .rti s = .next { s with
      sph := (s.spAdd 3).sph, spl := (s.spAdd 3).spl
      p := { n := v.getLsbD 7, v := v.getLsbD 6, e := s.p.e, d := v.getLsbD 3, i := v.getLsbD 2, z := v.getLsbD 1
             c := v.getLsbD 0 }
      pc := wordOf (s.readByte (s.spAdd 3).sp) (s.readByte (s.spAdd 2).sp) }

/-- If every program address reads the location that the same address writes, and no other, then BRK followed by RTI
answers the state before with PC two bytes on and eom_prefix 0: every general register, B, the stack pointer,
all seven flags, the map and the hidden bits are what they were. The entry frame and the two instructions' order
of bytes are the spec's decisions (log entries 15, 17, 18). -/
def Obligations.RtiUndoesBrk : Prop :=
  ∀ s t u : State, (∀ a b : Addr, s.progCell .write a = s.progCell .read b ↔ a = b) →
    exec .brk s = .next t → exec .rti t = .next u →
    u = { s with pc := s.pc + 2, eomPrefix := false, mem := u.mem }

/-- If every program address reads the location that the same address writes, and no other, then RTS right after JSR
(three forms) or BSR answers the state before the call with PC three bytes on, and RTS right after PHW #w
answers it with PC at w + 1; the stack pointer and everything else but memory is what it was. Push order and the
address BSR pushes are the spec's decisions D6, D7 and D15 (log entries 18, 28). -/
def Obligations.RtsReturnsToTheInstructionAfterACall : Prop :=
  ∀ s : State, (∀ a b : Addr, s.progCell .write a = s.progCell .read b ↔ a = b) →
    let returnsTo (i : Instr) (pc : Addr) : Prop :=
      ∀ t u, exec i s = .next t → exec .rts t = .next u → u = { s with pc := pc, mem := u.mem }
    (∀ nnnn, returnsTo (.jsrAbs nnnn) (s.pc + 3)) ∧ (∀ nnnn, returnsTo (.jsrAbsind nnnn) (s.pc + 3)) ∧
      (∀ nnnn, returnsTo (.jsrAbsindx nnnn) (s.pc + 3)) ∧ (∀ rrrr, returnsTo (.bsr rrrr) (s.pc + 3)) ∧
      (∀ nnnn, returnsTo (.phwImmw nnnn) (nnnn + 1))

/-- If every program address reads the location that the same address writes, and no other, then pulling into A, X,
Y or Z right after pushing it answers the state before with PC two bytes on and N and Z from the value: the
register and the stack pointer are what they were; and PLP after PHP leaves every flag what it was. That a pull
moves the pointer before it reads is the spec's decision D5 (log entry 18). -/
def Obligations.APullReturnsWhatWasPushed : Prop :=
  ∀ s : State, (∀ a b : Addr, s.progCell .write a = s.progCell .read b ↔ a = b) →
    let givesBack (push pull : Instr) (p : PFlags) : Prop :=
      ∀ t u, exec push s = .next t → exec pull t = .next u → u = { s with pc := s.pc + 2, p := p, mem := u.mem }
    let flagsOf (v : Byte) : PFlags := { s.p with n := v.getLsbD 7, z := v == 0 }
    givesBack .pha .pla (flagsOf s.a) ∧ givesBack .phx .plx (flagsOf s.x) ∧ givesBack .phy .ply (flagsOf s.y) ∧
      givesBack .phz .plz (flagsOf s.z) ∧ givesBack .php .plp s.p

/-- For every instruction and every state, if exec answers a next state: B is A when the instruction is TAB and
unchanged otherwise; the map is what MapLatch gives from A, X, Y, Z when it is MAP and unchanged otherwise;
map_inhibit is 1 when it is MAP, 0 when it is EOM and unchanged otherwise; P.E is 1 when it is SEE, 0 when it is
CLE and unchanged otherwise. What MapLatch gives is a parameter (log entry 5). -/
def Obligations.ControlStateHasFewWriters : Prop :=
  ∀ (i : Instr) (s t : State), exec i s = .next t →
    t.b = (if i = .tab then s.a else s.b) ∧
      t.mapState = (if i = .map then mapLatch s.a s.x s.y s.z s.mapState else s.mapState) ∧
      t.mapInhibit = (if i = .map then true else if i = .eom then false else s.mapInhibit) ∧
      t.p.e = (if i = .see then true else if i = .cle then false else s.p.e)

/-- For every instruction and every state, if exec answers a next state: P.D differs only after SED, CLD, PLP or RTI
(R30); P.I only after SEI, CLI, PLP, RTI or BRK (R31); P.V only after ADC, SBC, BIT, CLV, PLP or RTI (R29); P.C
only after ADC, SBC, the compares, the shifts and rotates, CLC, SEC, PLP or RTI (R28). The instructions are
named by their opcodes. That interrupt entry and BRK set P.I, and that only ADC and SBC are decimal, are
decisions D16 and D34 (log entries 17, 26). -/
def Obligations.FlagsDAndIAndVAndCHaveFewWriters : Prop :=
  ∀ (i : Instr) (s t : State), exec i s = .next t →
    (t.p.d ≠ s.p.d → i.opcode ∈ ([0xF8, 0xD8, 0x28, 0x40] : List Byte)) ∧
      (t.p.i ≠ s.p.i → i.opcode ∈ ([0x78, 0x58, 0x28, 0x40, 0x00] : List Byte)) ∧
      (t.p.v ≠ s.p.v → i.opcode ∈
        ([0x61, 0x65, 0x69, 0x6D, 0x71, 0x72, 0x75, 0x79, 0x7D, 0xE1, 0xE5, 0xE9, 0xED, 0xF1, 0xF2, 0xF5, 0xF9, 0xFD,
          0x24, 0x2C, 0x34, 0x3C, 0x89, 0xB8, 0x28, 0x40] : List Byte)) ∧
      (t.p.c ≠ s.p.c → i.opcode ∈
        ([0x61, 0x65, 0x69, 0x6D, 0x71, 0x72, 0x75, 0x79, 0x7D, 0xE1, 0xE5, 0xE9, 0xED, 0xF1, 0xF2, 0xF5, 0xF9, 0xFD,
          0xC1, 0xC5, 0xC9, 0xCD, 0xD1, 0xD2, 0xD5, 0xD9, 0xDD, 0xE0, 0xE4, 0xEC, 0xC0, 0xC4, 0xCC, 0xC2, 0xD4, 0xDC,
          0x06, 0x0A, 0x0E, 0x16, 0x1E, 0x26, 0x2A, 0x2E, 0x36, 0x3E, 0xCB, 0xEB, 0x43, 0x44, 0x54, 0x46, 0x4A, 0x4E,
          0x56, 0x5E, 0x66, 0x6A, 0x6E, 0x76, 0x7E, 0x18, 0x38, 0x28, 0x40] : List Byte))

/-- For every state with P.E = 1 and every instruction other than TYS, if exec answers a next state, SPH in it is
what it was: the stack is limited to a single page of memory, whatever is pushed, pulled or dropped by RTS #$nn. -/
def Obligations.TheStackStaysInItsPage : Prop :=
  ∀ (i : Instr) (s t : State), exec i s = .next t → s.p.e = true → i ≠ .tys → t.sph = s.sph

/-- For every state and every integer k, the stack pointer after SpAdd(k) is SPL plus k modulo 256 with SPH
unchanged when P.E = 1, and SPH:SPL plus k modulo 65536 when P.E = 0; nothing else of the state changes. That
with P.E = 1 every move, whatever its size, is made to SPL alone modulo 256 is the spec's decision D39 (log
entry 18). -/
def Obligations.StackPointerMovesAsTheEFlagSays : Prop :=
  ∀ (s : State) (k : Int),
    let t := s.spAdd (BitVec.ofInt 16 k)
    (s.p.e = true → t = { s with spl := BitVec.ofInt 8 (s.spl.toNat + k) }) ∧
      (s.p.e = false →
        ((t.sph.toNat * 256 + t.spl.toNat : Nat) : Int) = ((s.sph.toNat * 256 + s.spl.toNat : Nat) + k) % 65536 ∧
          t = { s with sph := t.sph, spl := t.spl })

/-- PByte(b) has N, V, E, b, D, I, Z, C as its bits 7 down to 0; SetP(v) sets N, V, D, I, Z, C from bits 7, 6, 3, 2,
1, 0 of v and keeps P.E. All positions but Break's are the spec's decision D2 (log entry 15). -/
def Obligations.TheFlagByteHasItsLayout : Prop :=
  ∀ (p : PFlags) (brk : Bool) (v : Byte),
    ((p.pbyte brk).getLsbD 7 = p.n ∧ (p.pbyte brk).getLsbD 6 = p.v ∧ (p.pbyte brk).getLsbD 5 = p.e ∧
      (p.pbyte brk).getLsbD 4 = brk ∧ (p.pbyte brk).getLsbD 3 = p.d ∧ (p.pbyte brk).getLsbD 2 = p.i ∧
      (p.pbyte brk).getLsbD 1 = p.z ∧ (p.pbyte brk).getLsbD 0 = p.c) ∧
    p.setP v = { n := v.getLsbD 7, v := v.getLsbD 6, e := p.e, d := v.getLsbD 3, i := v.getLsbD 2, z := v.getLsbD 1
                 c := v.getLsbD 0 }

/-- In every state: base-page forms lie at B*256 + offset, indexed ones with the sum of offset and index modulo 256;
absolute forms at the operand plus the index modulo 65536; ($nn,X), ($nn),Y and ($nn),Z at a pointer whose bytes
lie in the base page, each offset reduced modulo 256; ($nn),Z after EOM at a 32-bit pointer of four base-page
bytes plus Z, a flat address; ($nn,SP),Y at the pointer at SP + offset plus Y; the jump forms at the operand or
the word it points to, without a page wrap. This arithmetic is the spec's own, taken from the family (decisions
D8 to D12 and D23, log entries 16, 27, 29). -/
def Obligations.EffectiveAddressesOfTheOperandForms : Prop :=
  ∀ s : State,
    let page := s.b.toNat * 256
    let stack := s.sph.toNat * 256 + s.spl.toNat
    let bpByte (d : Nat) : Nat := (s.readByte (BitVec.ofNat 16 (page + d % 256))).toNat
    let byteAt (a : Nat) : Nat := (s.readByte (BitVec.ofNat 16 a)).toNat
    let prog (a : Nat) : Place := .prog (BitVec.ofNat 16 a)
    (∀ nn : Byte, MemForm.place s (.bp nn) = prog (page + nn.toNat)) ∧
    (∀ nn : Byte, MemForm.place s (.bpx nn) = prog (page + (nn.toNat + s.x.toNat) % 256)) ∧
    (∀ nn : Byte, MemForm.place s (.bpy nn) = prog (page + (nn.toNat + s.y.toNat) % 256)) ∧
    (∀ nnnn : Addr, MemForm.place s (.abs nnnn) = prog nnnn.toNat) ∧
    (∀ nnnn : Addr, MemForm.place s (.absx nnnn) = prog (nnnn.toNat + s.x.toNat)) ∧
    (∀ nnnn : Addr, MemForm.place s (.absy nnnn) = prog (nnnn.toNat + s.y.toNat)) ∧
    (∀ nn : Byte, MemForm.place s (.indx nn) =
      prog (bpByte (nn.toNat + s.x.toNat + 1) * 256 + bpByte (nn.toNat + s.x.toNat))) ∧
    (∀ nn : Byte, MemForm.place s (.indy nn) =
      prog (bpByte (nn.toNat + 1) * 256 + bpByte nn.toNat + s.y.toNat)) ∧
    (∀ nn : Byte, MemForm.place s (.indz nn) =
      if s.eomPrefix then
        .flat (BitVec.ofNat 32 (bpByte (nn.toNat + 3) * 2 ^ 24 + bpByte (nn.toNat + 2) * 2 ^ 16 +
          bpByte (nn.toNat + 1) * 2 ^ 8 + bpByte nn.toNat + s.z.toNat))
      else prog (bpByte (nn.toNat + 1) * 256 + bpByte nn.toNat + s.z.toNat)) ∧
    (∀ nn : Byte, MemForm.place s (.indspy nn) =
      prog (byteAt (stack + nn.toNat + 1) * 256 + byteAt (stack + nn.toNat) + s.y.toNat)) ∧
    (∀ nnnn : Addr, JumpForm.target s (.abs nnnn) = nnnn) ∧
    (∀ nnnn : Addr, (JumpForm.target s (.absind nnnn)).toNat = byteAt (nnnn.toNat + 1) * 256 + byteAt nnnn.toNat) ∧
    (∀ nnnn : Addr, (JumpForm.target s (.absindx nnnn)).toNat =
      byteAt (nnnn.toNat + s.x.toNat + 1) * 256 + byteAt (nnnn.toNat + s.x.toNat)) ∧
    (∀ nn : Byte, (s.bpWord nn).toNat = bpByte (nn.toNat + 1) * 256 + bpByte nn.toNat)

/-- For every state, a fetch, a read and a write at a program address select the location that Translate gives for
the map, the address and the kind, modulo 2^FLAT_ADDR_BITS; a flat access selects its address modulo
2^FLAT_ADDR_BITS, whatever the map. With the C65 map of 93_ G4 (PRESUMED, log entry 5) a block of 8 KiB that the
map's control bytes mark is moved by the offset they give modulo 2^20, and any other is where it is; with no
block marked every address is its own translation. -/
def Obligations.AccessesGoThroughTheMap : Prop :=
  (∀ (s : State) (a : Addr) (f : FlatAddr) (v : Byte),
    let size := 2 ^ s.params.flatAddrBits
    let located (kind : AccessKind) : Nat := (Machine.translate s.mapState kind a).toNat % size
    s.fetchByte a = s.mem.read (located .fetch) ∧ s.readByte a = s.mem.read (located .read) ∧
      (Place.prog a).load s = s.mem.read (located .read) ∧ (Place.flat f).load s = s.mem.read (f.toNat % size) ∧
      s.wroteOnly ((Place.prog a).store s v) [(located .write, v)] ∧
      s.wroteOnly ((Place.flat f).store s v) [(f.toNat % size, v)]) ∧
  (∀ (ma mx my mz : Byte) (kind : AccessKind) (a : Addr),
    let block := a.toNat / 8192
    let offset := if block < 4 then mx.toNat % 16 * 65536 + ma.toNat * 256 else mz.toNat % 16 * 65536 + my.toNat * 256
    let marked := if block < 4 then mx.getLsbD (4 + block) else mz.getLsbD block
    (Machine.translate (.c65 ma mx my mz) kind a).toNat = if marked then (a.toNat + offset) % 2 ^ 20 else a.toNat) ∧
  (∀ (kind : AccessKind) (a : Addr), (Machine.translate (.c65 0 0 0 0) kind a).toNat = a.toNat)

/-- In every state, each of the 23 forms of LDA, LDX, LDY and LDZ completes: the register becomes the operand byte,
N its bit 7, Z whether it is zero, PC moves past the instruction, and nothing else changes. The operand byte is
what Load(form) of R163 gives; the effective-address arithmetic of the forms is the spec's own decision (log
entry 16) and has a statement of its own. -/
def Obligations.LoadsSetTheRegisterAndNAndZ : Prop :=
  ∀ s : State,
    let flagsOf (m : Byte) : PFlags := { s.p with n := m.getLsbD 7, z := m == 0 }
    let lda (i : Instr) (m : Byte) (len : Addr) : Prop :=
      exec i s = .next { s with a := m, p := flagsOf m, pc := s.pc + len }
    let ldx (i : Instr) (m : Byte) (len : Addr) : Prop :=
      exec i s = .next { s with x := m, p := flagsOf m, pc := s.pc + len }
    let ldy (i : Instr) (m : Byte) (len : Addr) : Prop :=
      exec i s = .next { s with y := m, p := flagsOf m, pc := s.pc + len }
    let ldz (i : Instr) (m : Byte) (len : Addr) : Prop :=
      exec i s = .next { s with z := m, p := flagsOf m, pc := s.pc + len }
    (∀ nn, lda (.ldaIndx nn) (MemForm.load s (.indx nn)) 2) ∧ (∀ nn, lda (.ldaBp nn) (MemForm.load s (.bp nn)) 2) ∧
    (∀ nn, lda (.ldaImm nn) nn 2) ∧ (∀ nnnn, lda (.ldaAbs nnnn) (MemForm.load s (.abs nnnn)) 3) ∧
    (∀ nn, lda (.ldaIndy nn) (MemForm.load s (.indy nn)) 2) ∧
    (∀ nn, lda (.ldaIndz nn) (MemForm.load s (.indz nn)) 2) ∧ (∀ nn, lda (.ldaBpx nn) (MemForm.load s (.bpx nn)) 2) ∧
    (∀ nnnn, lda (.ldaAbsy nnnn) (MemForm.load s (.absy nnnn)) 3) ∧
    (∀ nnnn, lda (.ldaAbsx nnnn) (MemForm.load s (.absx nnnn)) 3) ∧
    (∀ nn, lda (.ldaIndspy nn) (MemForm.load s (.indspy nn)) 2) ∧ (∀ nn, ldx (.ldxImm nn) nn 2) ∧
    (∀ nn, ldx (.ldxBp nn) (MemForm.load s (.bp nn)) 2) ∧
    (∀ nnnn, ldx (.ldxAbs nnnn) (MemForm.load s (.abs nnnn)) 3) ∧
    (∀ nn, ldx (.ldxBpy nn) (MemForm.load s (.bpy nn)) 2) ∧
    (∀ nnnn, ldx (.ldxAbsy nnnn) (MemForm.load s (.absy nnnn)) 3) ∧ (∀ nn, ldy (.ldyImm nn) nn 2) ∧
    (∀ nn, ldy (.ldyBp nn) (MemForm.load s (.bp nn)) 2) ∧
    (∀ nnnn, ldy (.ldyAbs nnnn) (MemForm.load s (.abs nnnn)) 3) ∧
    (∀ nn, ldy (.ldyBpx nn) (MemForm.load s (.bpx nn)) 2) ∧
    (∀ nnnn, ldy (.ldyAbsx nnnn) (MemForm.load s (.absx nnnn)) 3) ∧ (∀ nn, ldz (.ldzImm nn) nn 2) ∧
    (∀ nnnn, ldz (.ldzAbs nnnn) (MemForm.load s (.abs nnnn)) 3) ∧
    (∀ nnnn, ldz (.ldzAbsx nnnn) (MemForm.load s (.absx nnnn)) 3)

/-- In every state, each of the 21 forms of STA, STX, STY and STZ completes: the byte at the effective address
becomes the register, every other byte of memory reads as before, PC moves past the instruction, and nothing
else changes; no flag is written. STZ stores the register Z. The operand byte is what Load(form) of R163 gives;
the effective-address arithmetic of the forms is the spec's own decision (log entry 16) and has a statement of
its own. -/
def Obligations.StoresWriteTheRegisterToTheOperand : Prop :=
  ∀ s : State,
    let stores (i : Instr) (m : MemForm) (v : Byte) (len : Addr) : Prop :=
      ∃ t, exec i s = .next t ∧ t = { s with pc := s.pc + len, mem := t.mem } ∧
        s.wroteOnly t [((m.place s).storeCell s, v)]
    (∀ nn, stores (.staIndx nn) (.indx nn) s.a 2) ∧ (∀ nn, stores (.staIndspy nn) (.indspy nn) s.a 2) ∧
    (∀ nn, stores (.staBp nn) (.bp nn) s.a 2) ∧ (∀ nnnn, stores (.staAbs nnnn) (.abs nnnn) s.a 3) ∧
    (∀ nn, stores (.staIndy nn) (.indy nn) s.a 2) ∧ (∀ nn, stores (.staIndz nn) (.indz nn) s.a 2) ∧
    (∀ nn, stores (.staBpx nn) (.bpx nn) s.a 2) ∧ (∀ nnnn, stores (.staAbsy nnnn) (.absy nnnn) s.a 3) ∧
    (∀ nnnn, stores (.staAbsx nnnn) (.absx nnnn) s.a 3) ∧ (∀ nn, stores (.stxBp nn) (.bp nn) s.x 2) ∧
    (∀ nnnn, stores (.stxAbs nnnn) (.abs nnnn) s.x 3) ∧ (∀ nn, stores (.stxBpy nn) (.bpy nn) s.x 2) ∧
    (∀ nnnn, stores (.stxAbsy nnnn) (.absy nnnn) s.x 3) ∧ (∀ nn, stores (.styBp nn) (.bp nn) s.y 2) ∧
    (∀ nnnn, stores (.styAbsx nnnn) (.absx nnnn) s.y 3) ∧ (∀ nnnn, stores (.styAbs nnnn) (.abs nnnn) s.y 3) ∧
    (∀ nn, stores (.styBpx nn) (.bpx nn) s.y 2) ∧ (∀ nn, stores (.stzBp nn) (.bp nn) s.z 2) ∧
    (∀ nn, stores (.stzBpx nn) (.bpx nn) s.z 2) ∧ (∀ nnnn, stores (.stzAbs nnnn) (.abs nnnn) s.z 3) ∧
    (∀ nnnn, stores (.stzAbsx nnnn) (.absx nnnn) s.z 3)

/-- In every state each of the eleven transfers completes: the destination becomes the source, PC moves on by one, N
and Z are set from the value by TAX, TAY, TAZ, TBA, TSY, TXA, TYA and TZA and by no other, and nothing else
changes. -/
def Obligations.TransfersCopyARegister : Prop :=
  ∀ s : State,
    let flagsOf (m : Byte) : PFlags := { s.p with n := m.getLsbD 7, z := m == 0 }
    exec .tab s = .next { s with b := s.a, pc := s.pc + 1 } ∧
    exec .tax s = .next { s with x := s.a, p := flagsOf s.a, pc := s.pc + 1 } ∧
    exec .tay s = .next { s with y := s.a, p := flagsOf s.a, pc := s.pc + 1 } ∧
    exec .taz s = .next { s with z := s.a, p := flagsOf s.a, pc := s.pc + 1 } ∧
    exec .tba s = .next { s with a := s.b, p := flagsOf s.b, pc := s.pc + 1 } ∧
    exec .tsy s = .next { s with y := s.sph, p := flagsOf s.sph, pc := s.pc + 1 } ∧
    exec .txa s = .next { s with a := s.x, p := flagsOf s.x, pc := s.pc + 1 } ∧
    exec .txs s = .next { s with spl := s.x, pc := s.pc + 1 } ∧
    exec .tya s = .next { s with a := s.y, p := flagsOf s.y, pc := s.pc + 1 } ∧
    exec .tys s = .next { s with sph := s.y, pc := s.pc + 1 } ∧
    exec .tza s = .next { s with a := s.z, p := flagsOf s.z, pc := s.pc + 1 }

/-- In every state TSX completes: X becomes SPL, N and Z are set from it, PC moves on by one, and nothing else
changes. The source contradicts itself on which half of the stack pointer TSX reads; the spec decides for SPL
(90_conflicts.md C6, decision D27, log entry 21). -/
def Obligations.TsxReadsTheLowByteOfTheStackPointer : Prop :=
  ∀ s : State,
    exec .tsx s =
      .next { s with x := s.spl, p := { s.p with n := s.spl.getLsbD 7, z := s.spl == 0 }, pc := s.pc + 1 }

/-- In every state with P.D = 0, each of the nine forms of ADC completes: A becomes A + M + C modulo 256; C whether
that sum exceeds 255; V whether A and M have the same sign and the result has the other; N and Z are from the
result; PC moves past the instruction; nothing else changes. The operand byte is what Load(form) of R163 gives;
the effective-address arithmetic of the forms is the spec's own decision (log entry 16) and has a statement of
its own. -/
def Obligations.AdcAddsInBinary : Prop :=
  ∀ s : State, s.p.d = false →
    let adds (i : Instr) (m : Byte) (len : Addr) : Prop :=
      let sum := s.a.toNat + m.toNat + s.p.c.toNat
      let r := BitVec.ofNat 8 sum
      exec i s = .next { s with
        a := r
        p := { s.p with
          n := r.getLsbD 7, z := r == 0, c := decide (255 < sum)
          v := s.a.getLsbD 7 == m.getLsbD 7 && r.getLsbD 7 != s.a.getLsbD 7 }
        pc := s.pc + len }
    (∀ nn, adds (.adcIndx nn) (MemForm.load s (.indx nn)) 2) ∧ (∀ nn, adds (.adcBp nn) (MemForm.load s (.bp nn)) 2) ∧
    (∀ nn, adds (.adcImm nn) nn 2) ∧ (∀ nnnn, adds (.adcAbs nnnn) (MemForm.load s (.abs nnnn)) 3) ∧
    (∀ nn, adds (.adcIndy nn) (MemForm.load s (.indy nn)) 2) ∧
    (∀ nn, adds (.adcIndz nn) (MemForm.load s (.indz nn)) 2) ∧
    (∀ nn, adds (.adcBpx nn) (MemForm.load s (.bpx nn)) 2) ∧
    (∀ nnnn, adds (.adcAbsy nnnn) (MemForm.load s (.absy nnnn)) 3) ∧
    (∀ nnnn, adds (.adcAbsx nnnn) (MemForm.load s (.absx nnnn)) 3)

/-- In every state with P.D = 1, each of the nine forms of ADC completes. If A and the operand are valid BCD, A
becomes the valid BCD byte that stands for their sum with the carry modulo 100, C whether the sum exceeds 99, N
and Z are from the result byte, and V is a free value, a fresh one for each such execution (log entry 7).
Otherwise A, N, V, Z and C are what the uninterpreted parameter BcdAdc gives (log entry 6). PC moves past the
instruction and nothing else changes. Decision D25. The operand byte is what Load(form) of R163 gives; the
effective-address arithmetic of the forms is the spec's own decision (log entry 16) and has a statement of its
own. -/
def Obligations.AdcAddsInDecimal : Prop :=
  ∀ s : State, s.p.d = true →
    let valid (v : Byte) : Prop := v.toNat / 16 ≤ 9 ∧ v.toNat % 16 ≤ 9
    let dec (v : Byte) : Int := 10 * (v.toNat / 16 : Nat) + (v.toNat % 16 : Nat)
    let adds (i : Instr) (m : Byte) (len : Addr) : Prop :=
      let total : Int := dec s.a + dec m + s.p.c.toNat
      (valid s.a ∧ valid m →
        ∃ r : Byte, valid r ∧ dec r = total % 100 ∧
          exec i s = .next { s with
            a := r, pc := s.pc + len, draws := s.draws + 1
            p := { s.p with
              n := r.getLsbD 7, v := Config.freeFlag s.draws, z := r == 0, c := decide (99 < total) } }) ∧
      (¬(valid s.a ∧ valid m) →
        let o := Config.bcdAdc s.a m s.p.c
        exec i s = .next { s with
          a := o.value, p := { s.p with n := o.n, v := o.v, z := o.z, c := o.c }, pc := s.pc + len })
    (∀ nn, adds (.adcIndx nn) (MemForm.load s (.indx nn)) 2) ∧ (∀ nn, adds (.adcBp nn) (MemForm.load s (.bp nn)) 2) ∧
    (∀ nn, adds (.adcImm nn) nn 2) ∧ (∀ nnnn, adds (.adcAbs nnnn) (MemForm.load s (.abs nnnn)) 3) ∧
    (∀ nn, adds (.adcIndy nn) (MemForm.load s (.indy nn)) 2) ∧
    (∀ nn, adds (.adcIndz nn) (MemForm.load s (.indz nn)) 2) ∧
    (∀ nn, adds (.adcBpx nn) (MemForm.load s (.bpx nn)) 2) ∧
    (∀ nnnn, adds (.adcAbsy nnnn) (MemForm.load s (.absy nnnn)) 3) ∧
    (∀ nnnn, adds (.adcAbsx nnnn) (MemForm.load s (.absx nnnn)) 3)

/-- In every state with P.D = 0, each of the nine forms of SBC completes: A becomes A - M - 1 + C modulo 256; C is 1
exactly when that value is zero or positive; V whether A and M have different signs and the result has M's; N
and Z are from the result; PC moves past the instruction; nothing else changes. That N, Z and C are those of A -
M - 1 + C (90_conflicts.md C7) and V that of the addition of the complement (C8) is the spec's resolution of
conflicts in the source (log entry 22). The operand byte is what Load(form) of R163 gives; the effective-address
arithmetic of the forms is the spec's own decision (log entry 16) and has a statement of its own. -/
def Obligations.SbcSubtractsInBinary : Prop :=
  ∀ s : State, s.p.d = false →
    let subtracts (i : Instr) (m : Byte) (len : Addr) : Prop :=
      let difference : Int := s.a.toNat - m.toNat - 1 + s.p.c.toNat
      let r := BitVec.ofInt 8 difference
      exec i s = .next { s with
        a := r
        p := { s.p with
          n := r.getLsbD 7, z := r == 0, c := decide (0 ≤ difference)
          v := s.a.getLsbD 7 != m.getLsbD 7 && r.getLsbD 7 == m.getLsbD 7 }
        pc := s.pc + len }
    (∀ nn, subtracts (.sbcIndx nn) (MemForm.load s (.indx nn)) 2) ∧
    (∀ nn, subtracts (.sbcBp nn) (MemForm.load s (.bp nn)) 2) ∧ (∀ nn, subtracts (.sbcImm nn) nn 2) ∧
    (∀ nnnn, subtracts (.sbcAbs nnnn) (MemForm.load s (.abs nnnn)) 3) ∧
    (∀ nn, subtracts (.sbcIndy nn) (MemForm.load s (.indy nn)) 2) ∧
    (∀ nn, subtracts (.sbcIndz nn) (MemForm.load s (.indz nn)) 2) ∧
    (∀ nn, subtracts (.sbcBpx nn) (MemForm.load s (.bpx nn)) 2) ∧
    (∀ nnnn, subtracts (.sbcAbsy nnnn) (MemForm.load s (.absy nnnn)) 3) ∧
    (∀ nnnn, subtracts (.sbcAbsx nnnn) (MemForm.load s (.absx nnnn)) 3)

/-- In every state with P.D = 1, each of the nine forms of SBC completes. If A and the operand are valid BCD, A
becomes the valid BCD byte that stands for A - M - 1 + C modulo 100, C whether that value is zero or positive, N
and Z are from the result byte, and V is a free value, a fresh one for each such execution (log entry 7).
Otherwise A, N, V, Z and C are what the uninterpreted parameter BcdSbc gives (log entry 6). PC moves past the
instruction and nothing else changes. Decision D25. The operand byte is what Load(form) of R163 gives; the
effective-address arithmetic of the forms is the spec's own decision (log entry 16) and has a statement of its
own. -/
def Obligations.SbcSubtractsInDecimal : Prop :=
  ∀ s : State, s.p.d = true →
    let valid (v : Byte) : Prop := v.toNat / 16 ≤ 9 ∧ v.toNat % 16 ≤ 9
    let dec (v : Byte) : Int := 10 * (v.toNat / 16 : Nat) + (v.toNat % 16 : Nat)
    let subtracts (i : Instr) (m : Byte) (len : Addr) : Prop :=
      let total : Int := dec s.a - dec m - 1 + s.p.c.toNat
      (valid s.a ∧ valid m →
        ∃ r : Byte, valid r ∧ dec r = total % 100 ∧
          exec i s = .next { s with
            a := r, pc := s.pc + len, draws := s.draws + 1
            p := { s.p with
              n := r.getLsbD 7, v := Config.freeFlag s.draws, z := r == 0, c := decide (0 ≤ total) } }) ∧
      (¬(valid s.a ∧ valid m) →
        let o := Config.bcdSbc s.a m s.p.c
        exec i s = .next { s with
          a := o.value, p := { s.p with n := o.n, v := o.v, z := o.z, c := o.c }, pc := s.pc + len })
    (∀ nn, subtracts (.sbcIndx nn) (MemForm.load s (.indx nn)) 2) ∧
    (∀ nn, subtracts (.sbcBp nn) (MemForm.load s (.bp nn)) 2) ∧ (∀ nn, subtracts (.sbcImm nn) nn 2) ∧
    (∀ nnnn, subtracts (.sbcAbs nnnn) (MemForm.load s (.abs nnnn)) 3) ∧
    (∀ nn, subtracts (.sbcIndy nn) (MemForm.load s (.indy nn)) 2) ∧
    (∀ nn, subtracts (.sbcIndz nn) (MemForm.load s (.indz nn)) 2) ∧
    (∀ nn, subtracts (.sbcBpx nn) (MemForm.load s (.bpx nn)) 2) ∧
    (∀ nnnn, subtracts (.sbcAbsy nnnn) (MemForm.load s (.absy nnnn)) 3) ∧
    (∀ nnnn, subtracts (.sbcAbsx nnnn) (MemForm.load s (.absx nnnn)) 3)

/-- For every two bytes and carry, the V that binary addition answers is 1 exactly when the sum of the two bytes,
read as signed numbers, and the carry lies outside -128 to 127, and the V that binary subtraction answers
exactly when a - m - 1 + c, so read, lies outside -128 to 127. For SBC this is the spec's resolution of a
conflict in the source (90_conflicts.md C8, log entry 22). -/
def Obligations.TheOverflowFlagMeansSignedOverflow : Prop :=
  ∀ (a m : Byte) (c : Bool),
    ((addBinary a m c).v = true ↔ a.toInt + m.toInt + c.toNat < -128 ∨ 127 < a.toInt + m.toInt + c.toNat) ∧
      ((subBinary a m c).v = true ↔
        a.toInt - m.toInt - 1 + c.toNat < -128 ∨ 127 < a.toInt - m.toInt - 1 + c.toNat)

/-- In every state, each of the 27 forms of AND, EOR and ORA completes: A becomes the bitwise and, exclusive or, or
inclusive or of A and the operand byte, N and Z are from the result, PC moves past the instruction, and nothing
else changes. That ORA is the inclusive or of A and the operand is the spec's resolution of a conflict in the
source (90_conflicts.md C1, log entry 22). The operand byte is what Load(form) of R163 gives; the effective-
address arithmetic of the forms is the spec's own decision (log entry 16) and has a statement of its own. -/
def Obligations.LogicCombinesAWithTheOperand : Prop :=
  ∀ s : State,
    let becomes (i : Instr) (r : Byte) (len : Addr) : Prop :=
      exec i s = .next { s with a := r, p := { s.p with n := r.getLsbD 7, z := r == 0 }, pc := s.pc + len }
    (∀ nn, becomes (.andIndx nn) (s.a &&& (MemForm.load s (.indx nn))) 2) ∧
    (∀ nn, becomes (.andBp nn) (s.a &&& (MemForm.load s (.bp nn))) 2) ∧ (∀ nn, becomes (.andImm nn) (s.a &&& nn) 2) ∧
    (∀ nnnn, becomes (.andAbs nnnn) (s.a &&& (MemForm.load s (.abs nnnn))) 3) ∧
    (∀ nn, becomes (.andIndy nn) (s.a &&& (MemForm.load s (.indy nn))) 2) ∧
    (∀ nn, becomes (.andIndz nn) (s.a &&& (MemForm.load s (.indz nn))) 2) ∧
    (∀ nn, becomes (.andBpx nn) (s.a &&& (MemForm.load s (.bpx nn))) 2) ∧
    (∀ nnnn, becomes (.andAbsy nnnn) (s.a &&& (MemForm.load s (.absy nnnn))) 3) ∧
    (∀ nnnn, becomes (.andAbsx nnnn) (s.a &&& (MemForm.load s (.absx nnnn))) 3) ∧
    (∀ nn, becomes (.eorIndx nn) (s.a ^^^ (MemForm.load s (.indx nn))) 2) ∧
    (∀ nn, becomes (.eorBp nn) (s.a ^^^ (MemForm.load s (.bp nn))) 2) ∧ (∀ nn, becomes (.eorImm nn) (s.a ^^^ nn) 2) ∧
    (∀ nnnn, becomes (.eorAbs nnnn) (s.a ^^^ (MemForm.load s (.abs nnnn))) 3) ∧
    (∀ nn, becomes (.eorIndy nn) (s.a ^^^ (MemForm.load s (.indy nn))) 2) ∧
    (∀ nn, becomes (.eorIndz nn) (s.a ^^^ (MemForm.load s (.indz nn))) 2) ∧
    (∀ nn, becomes (.eorBpx nn) (s.a ^^^ (MemForm.load s (.bpx nn))) 2) ∧
    (∀ nnnn, becomes (.eorAbsy nnnn) (s.a ^^^ (MemForm.load s (.absy nnnn))) 3) ∧
    (∀ nnnn, becomes (.eorAbsx nnnn) (s.a ^^^ (MemForm.load s (.absx nnnn))) 3) ∧
    (∀ nn, becomes (.oraIndx nn) (s.a ||| (MemForm.load s (.indx nn))) 2) ∧
    (∀ nn, becomes (.oraBp nn) (s.a ||| (MemForm.load s (.bp nn))) 2) ∧ (∀ nn, becomes (.oraImm nn) (s.a ||| nn) 2) ∧
    (∀ nnnn, becomes (.oraAbs nnnn) (s.a ||| (MemForm.load s (.abs nnnn))) 3) ∧
    (∀ nn, becomes (.oraIndy nn) (s.a ||| (MemForm.load s (.indy nn))) 2) ∧
    (∀ nn, becomes (.oraIndz nn) (s.a ||| (MemForm.load s (.indz nn))) 2) ∧
    (∀ nn, becomes (.oraBpx nn) (s.a ||| (MemForm.load s (.bpx nn))) 2) ∧
    (∀ nnnn, becomes (.oraAbsy nnnn) (s.a ||| (MemForm.load s (.absy nnnn))) 3) ∧
    (∀ nnnn, becomes (.oraAbsx nnnn) (s.a ||| (MemForm.load s (.absx nnnn))) 3)

/-- In every state, each of the five forms of BIT completes: N becomes bit 7 and V bit 6 of the operand byte, Z
whether A and the operand have no bit in common, PC moves past the instruction, and nothing else changes. That
the immediate form writes the same three flags is the spec's decision D32 (log entry 26). The operand byte is
what Load(form) of R163 gives; the effective-address arithmetic of the forms is the spec's own decision (log
entry 16) and has a statement of its own. -/
def Obligations.BitTestsTheOperand : Prop :=
  ∀ s : State,
    let tests (i : Instr) (m : Byte) (len : Addr) : Prop :=
      exec i s = .next { s with
        p := { s.p with n := m.getLsbD 7, v := m.getLsbD 6, z := s.a &&& m == 0 }, pc := s.pc + len }
    (∀ nn, tests (.bitBp nn) (MemForm.load s (.bp nn)) 2) ∧
    (∀ nnnn, tests (.bitAbs nnnn) (MemForm.load s (.abs nnnn)) 3) ∧
    (∀ nn, tests (.bitBpx nn) (MemForm.load s (.bpx nn)) 2) ∧
    (∀ nnnn, tests (.bitAbsx nnnn) (MemForm.load s (.absx nnnn)) 3) ∧ (∀ nn, tests (.bitImm nn) nn 2)

/-- In every state, each of the 18 forms of CMP, CPX, CPY and CPZ completes: N becomes bit 7 of the 8-bit difference
of register and operand, Z whether they are equal, C whether the register is not less than the operand as
unsigned numbers, PC moves past the instruction, and nothing else changes. That CPX, CPY and CPZ, whose text
speaks of the Accumulator, compare their own register and change none is the spec's resolution of a conflict in
the source (90_conflicts.md C9, log entry 22). The operand byte is what Load(form) of R163 gives; the effective-
address arithmetic of the forms is the spec's own decision (log entry 16) and has a statement of its own. -/
def Obligations.ComparesSetNZAndC : Prop :=
  ∀ s : State,
    let compares (i : Instr) (r m : Byte) (len : Addr) : Prop :=
      exec i s = .next { s with
        p := { s.p with
          n := (BitVec.ofInt 8 ((r.toNat : Int) - m.toNat)).getLsbD 7, z := r == m, c := decide (m.toNat ≤ r.toNat) }
        pc := s.pc + len }
    (∀ nn, compares (.cmpIndx nn) s.a (MemForm.load s (.indx nn)) 2) ∧
    (∀ nn, compares (.cmpBp nn) s.a (MemForm.load s (.bp nn)) 2) ∧ (∀ nn, compares (.cmpImm nn) s.a nn 2) ∧
    (∀ nnnn, compares (.cmpAbs nnnn) s.a (MemForm.load s (.abs nnnn)) 3) ∧
    (∀ nn, compares (.cmpIndy nn) s.a (MemForm.load s (.indy nn)) 2) ∧
    (∀ nn, compares (.cmpIndz nn) s.a (MemForm.load s (.indz nn)) 2) ∧
    (∀ nn, compares (.cmpBpx nn) s.a (MemForm.load s (.bpx nn)) 2) ∧
    (∀ nnnn, compares (.cmpAbsy nnnn) s.a (MemForm.load s (.absy nnnn)) 3) ∧
    (∀ nnnn, compares (.cmpAbsx nnnn) s.a (MemForm.load s (.absx nnnn)) 3) ∧ (∀ nn, compares (.cpxImm nn) s.x nn 2) ∧
    (∀ nn, compares (.cpxBp nn) s.x (MemForm.load s (.bp nn)) 2) ∧
    (∀ nnnn, compares (.cpxAbs nnnn) s.x (MemForm.load s (.abs nnnn)) 3) ∧ (∀ nn, compares (.cpyImm nn) s.y nn 2) ∧
    (∀ nn, compares (.cpyBp nn) s.y (MemForm.load s (.bp nn)) 2) ∧
    (∀ nnnn, compares (.cpyAbs nnnn) s.y (MemForm.load s (.abs nnnn)) 3) ∧ (∀ nn, compares (.cpzImm nn) s.z nn 2) ∧
    (∀ nn, compares (.cpzBp nn) s.z (MemForm.load s (.bp nn)) 2) ∧
    (∀ nnnn, compares (.cpzAbs nnnn) s.z (MemForm.load s (.abs nnnn)) 3)

/-- In every state each completes: the register becomes itself plus one, minus one or negated, modulo 256; N and Z
are from the result; PC moves on by one; nothing else changes, C and V included. INC and DEC are here in their
accumulator form only. That INZ counts the register Z, not Y, is the spec's resolution of a conflict in the
source (90_conflicts.md C2, log entry 22). -/
def Obligations.RegistersCountUpAndDown : Prop :=
  ∀ s : State,
    let flagsOf (m : Byte) : PFlags := { s.p with n := m.getLsbD 7, z := m == 0 }
    exec .inx s = .next { s with x := s.x + 1, p := flagsOf (s.x + 1), pc := s.pc + 1 } ∧
    exec .iny s = .next { s with y := s.y + 1, p := flagsOf (s.y + 1), pc := s.pc + 1 } ∧
    exec .inz s = .next { s with z := s.z + 1, p := flagsOf (s.z + 1), pc := s.pc + 1 } ∧
    exec .dex s = .next { s with x := s.x - 1, p := flagsOf (s.x - 1), pc := s.pc + 1 } ∧
    exec .dey s = .next { s with y := s.y - 1, p := flagsOf (s.y - 1), pc := s.pc + 1 } ∧
    exec .dez s = .next { s with z := s.z - 1, p := flagsOf (s.z - 1), pc := s.pc + 1 } ∧
    exec .incAcc s = .next { s with a := s.a + 1, p := flagsOf (s.a + 1), pc := s.pc + 1 } ∧
    exec .decAcc s = .next { s with a := s.a - 1, p := flagsOf (s.a - 1), pc := s.pc + 1 } ∧
    exec .neg s = .next { s with a := -s.a, p := flagsOf (-s.a), pc := s.pc + 1 }

/-- In every state, each of the eight memory forms of INC and DEC completes: the byte at the effective address
becomes itself plus or minus one modulo 256, every other byte of memory reads as before, N and Z are from the
result, PC moves past the instruction, and nothing else changes. The operand byte is what Load(form) of R163
gives; the effective-address arithmetic of the forms is the spec's own decision (log entry 16) and has a
statement of its own. -/
def Obligations.IncAndDecChangeAByteOfMemory : Prop :=
  ∀ s : State,
    let changes (i : Instr) (m : MemForm) (op : Byte → Byte) (len : Addr) : Prop :=
      let r := op (m.load s)
      ∃ t, exec i s = .next t ∧
        t = { s with p := { s.p with n := r.getLsbD 7, z := r == 0 }, pc := s.pc + len, mem := t.mem } ∧
        s.wroteOnly t [((m.place s).storeCell s, r)]
    (∀ nn, changes (.incBp nn) (.bp nn) (· + 1) 2) ∧ (∀ nnnn, changes (.incAbs nnnn) (.abs nnnn) (· + 1) 3) ∧
    (∀ nn, changes (.incBpx nn) (.bpx nn) (· + 1) 2) ∧ (∀ nnnn, changes (.incAbsx nnnn) (.absx nnnn) (· + 1) 3) ∧
    (∀ nn, changes (.decBp nn) (.bp nn) (· - 1) 2) ∧ (∀ nnnn, changes (.decAbs nnnn) (.abs nnnn) (· - 1) 3) ∧
    (∀ nn, changes (.decBpx nn) (.bpx nn) (· - 1) 2) ∧ (∀ nnnn, changes (.decAbsx nnnn) (.absx nnnn) (· - 1) 3)

/-- In every state INW and DEW, on the word whose bytes are at base-page offsets nn and nn + 1 modulo 256, and ASW
and ROW, on the word at nnnn and nnnn + 1 modulo 65536, complete: the word becomes itself plus one, minus one,
doubled, or doubled plus the carry, modulo 65536, its low byte written first and then its high byte; every other
byte of memory reads as before; N is bit 15 of the result and Z whether all 16 bits are zero; ASW and ROW set C
to bit 15 of the word before; PC moves past the instruction; nothing else changes. Where the second byte of a
word lies, that both bytes are written, and that N is bit 15, are the spec's own decisions (D9, D10, D28; log
entries 16, 19, 22). -/
def Obligations.WordInstructionsChangeAWordOfMemory : Prop :=
  ∀ s : State,
    let changes (i : Instr) (low high : Addr) (result : Nat → Nat) (carry : Nat → Bool) (len : Addr) : Prop :=
      let before := (s.readByte high).toNat * 256 + (s.readByte low).toNat
      let r := result before % 65536
      ∃ t, exec i s = .next t ∧
        t = { s with
          p := { s.p with n := decide (32768 ≤ r), z := decide (r = 0), c := carry before }
          pc := s.pc + len, mem := t.mem } ∧
        s.wroteOnly t [(s.progCell .write low, BitVec.ofNat 8 (r % 256)),
          (s.progCell .write high, BitVec.ofNat 8 (r / 256))]
    (∀ nn, changes (.inw nn) (s.bpAddr nn) (s.bpAddr (nn + 1)) (· + 1) (fun _ => s.p.c) 2) ∧
    (∀ nn, changes (.dew nn) (s.bpAddr nn) (s.bpAddr (nn + 1)) (· + 65535) (fun _ => s.p.c) 2) ∧
    (∀ nnnn, changes (.asw nnnn) nnnn (nnnn + 1) (· * 2) (fun w => decide (32768 ≤ w)) 3) ∧
    (∀ nnnn, changes (.row nnnn) nnnn (nnnn + 1) (fun w => w * 2 % 65536 + s.p.c.toNat) (fun w => decide (32768 ≤ w)) 3)

/-- In every state the accumulator forms of ASL, ASR, LSR, ROL and ROR complete: A becomes 2v modulo 256, v halved
with its bit 7 kept, v halved, 2v modulo 256 plus the old carry, or v halved plus 128 times the old carry; C
becomes bit 7 (ASL, ROL) or bit 0 (ASR, LSR, ROR) of v; N and Z are from the result; PC moves on by one; nothing
else changes. -/
def Obligations.ShiftsMoveTheAccumulatorByOneBit : Prop :=
  ∀ s : State,
    let shifts (i : Instr) (result : Nat → Nat) (out : Nat) : Prop :=
      let r := BitVec.ofNat 8 (result s.a.toNat)
      exec i s = .next { s with
        a := r, p := { s.p with n := r.getLsbD 7, z := r == 0, c := s.a.getLsbD out }, pc := s.pc + 1 }
    shifts .aslAcc (fun v => v * 2) 7 ∧ shifts .asrAcc (fun v => v / 128 * 128 + v / 2) 0 ∧
    shifts .lsrAcc (fun v => v / 2) 0 ∧ shifts .rolAcc (fun v => v * 2 % 256 + s.p.c.toNat) 7 ∧
    shifts .rorAcc (fun v => s.p.c.toNat * 128 + v / 2) 0

/-- In every state the 18 memory forms of ASL, ASR, LSR, ROL and ROR complete: the byte at the effective address
becomes the shift of itself as for the accumulator forms, every other byte of memory reads as before, C becomes
the bit shifted out, N and Z are from the result, PC moves past the instruction, and nothing else changes. The
operand byte is what Load(form) of R163 gives; the effective-address arithmetic of the forms is the spec's own
decision (log entry 16) and has a statement of its own. -/
def Obligations.ShiftsMoveAByteOfMemoryByOneBit : Prop :=
  ∀ s : State,
    let shifts (i : Instr) (m : MemForm) (result : Nat → Nat) (out : Nat) (len : Addr) : Prop :=
      let v := m.load s
      let r := BitVec.ofNat 8 (result v.toNat)
      ∃ t, exec i s = .next t ∧
        t = { s with
          p := { s.p with n := r.getLsbD 7, z := r == 0, c := v.getLsbD out }, pc := s.pc + len, mem := t.mem } ∧
        s.wroteOnly t [((m.place s).storeCell s, r)]
    (∀ nn, shifts (.aslBp nn) (.bp nn) (fun v => v * 2) 7 2) ∧
    (∀ nnnn, shifts (.aslAbs nnnn) (.abs nnnn) (fun v => v * 2) 7 3) ∧
    (∀ nn, shifts (.aslBpx nn) (.bpx nn) (fun v => v * 2) 7 2) ∧
    (∀ nnnn, shifts (.aslAbsx nnnn) (.absx nnnn) (fun v => v * 2) 7 3) ∧
    (∀ nn, shifts (.asrBp nn) (.bp nn) (fun v => v / 128 * 128 + v / 2) 0 2) ∧
    (∀ nn, shifts (.asrBpx nn) (.bpx nn) (fun v => v / 128 * 128 + v / 2) 0 2) ∧
    (∀ nn, shifts (.lsrBp nn) (.bp nn) (fun v => v / 2) 0 2) ∧
    (∀ nnnn, shifts (.lsrAbs nnnn) (.abs nnnn) (fun v => v / 2) 0 3) ∧
    (∀ nn, shifts (.lsrBpx nn) (.bpx nn) (fun v => v / 2) 0 2) ∧
    (∀ nnnn, shifts (.lsrAbsx nnnn) (.absx nnnn) (fun v => v / 2) 0 3) ∧
    (∀ nn, shifts (.rolBp nn) (.bp nn) (fun v => v * 2 % 256 + s.p.c.toNat) 7 2) ∧
    (∀ nnnn, shifts (.rolAbs nnnn) (.abs nnnn) (fun v => v * 2 % 256 + s.p.c.toNat) 7 3) ∧
    (∀ nn, shifts (.rolBpx nn) (.bpx nn) (fun v => v * 2 % 256 + s.p.c.toNat) 7 2) ∧
    (∀ nnnn, shifts (.rolAbsx nnnn) (.absx nnnn) (fun v => v * 2 % 256 + s.p.c.toNat) 7 3) ∧
    (∀ nn, shifts (.rorBp nn) (.bp nn) (fun v => s.p.c.toNat * 128 + v / 2) 0 2) ∧
    (∀ nnnn, shifts (.rorAbs nnnn) (.abs nnnn) (fun v => s.p.c.toNat * 128 + v / 2) 0 3) ∧
    (∀ nn, shifts (.rorBpx nn) (.bpx nn) (fun v => s.p.c.toNat * 128 + v / 2) 0 2) ∧
    (∀ nnnn, shifts (.rorAbsx nnnn) (.absx nnnn) (fun v => s.p.c.toNat * 128 + v / 2) 0 3)

/-- In every state each of RMB0 to RMB7 completes: the byte at offset nn of the base page becomes itself with bit 0
to 7 cleared, every other byte of memory reads as before, PC moves on by two, and nothing else changes, no flag
included. -/
def Obligations.RmbClearsOneBitOfABasePageByte : Prop :=
  ∀ s : State,
    let changes (i : Instr) (nn r : Byte) : Prop :=
      ∃ t, exec i s = .next t ∧ t = { s with pc := s.pc + 2, mem := t.mem } ∧
        s.wroteOnly t [(s.progCell .write (s.bpAddr nn), r)]
    (∀ nn, changes (.rmb0 nn) nn (s.readByte (s.bpAddr nn) &&& 0xFE)) ∧
    (∀ nn, changes (.rmb1 nn) nn (s.readByte (s.bpAddr nn) &&& 0xFD)) ∧
    (∀ nn, changes (.rmb2 nn) nn (s.readByte (s.bpAddr nn) &&& 0xFB)) ∧
    (∀ nn, changes (.rmb3 nn) nn (s.readByte (s.bpAddr nn) &&& 0xF7)) ∧
    (∀ nn, changes (.rmb4 nn) nn (s.readByte (s.bpAddr nn) &&& 0xEF)) ∧
    (∀ nn, changes (.rmb5 nn) nn (s.readByte (s.bpAddr nn) &&& 0xDF)) ∧
    (∀ nn, changes (.rmb6 nn) nn (s.readByte (s.bpAddr nn) &&& 0xBF)) ∧
    (∀ nn, changes (.rmb7 nn) nn (s.readByte (s.bpAddr nn) &&& 0x7F))

/-- In every state each of SMB0 to SMB7 completes: the byte at offset nn of the base page becomes itself with bit 0
to 7 set, every other byte of memory reads as before, PC moves on by two, and nothing else changes, no flag
included. -/
def Obligations.SmbSetsOneBitOfABasePageByte : Prop :=
  ∀ s : State,
    let changes (i : Instr) (nn r : Byte) : Prop :=
      ∃ t, exec i s = .next t ∧ t = { s with pc := s.pc + 2, mem := t.mem } ∧
        s.wroteOnly t [(s.progCell .write (s.bpAddr nn), r)]
    (∀ nn, changes (.smb0 nn) nn (s.readByte (s.bpAddr nn) ||| 0x01)) ∧
    (∀ nn, changes (.smb1 nn) nn (s.readByte (s.bpAddr nn) ||| 0x02)) ∧
    (∀ nn, changes (.smb2 nn) nn (s.readByte (s.bpAddr nn) ||| 0x04)) ∧
    (∀ nn, changes (.smb3 nn) nn (s.readByte (s.bpAddr nn) ||| 0x08)) ∧
    (∀ nn, changes (.smb4 nn) nn (s.readByte (s.bpAddr nn) ||| 0x10)) ∧
    (∀ nn, changes (.smb5 nn) nn (s.readByte (s.bpAddr nn) ||| 0x20)) ∧
    (∀ nn, changes (.smb6 nn) nn (s.readByte (s.bpAddr nn) ||| 0x40)) ∧
    (∀ nn, changes (.smb7 nn) nn (s.readByte (s.bpAddr nn) ||| 0x80))

/-- In every state the two forms of TRB and of TSB complete: Z becomes whether A and the byte before have no bit in
common, the byte becomes itself with the bits of A cleared (TRB) or set (TSB), every other byte of memory reads
as before, PC moves past the instruction, and nothing else changes, N and A included. Their atomicity towards
other agents has nothing to show in a model of one agent (log entry 19). The operand byte is what Load(form) of
R163 gives; the effective-address arithmetic of the forms is the spec's own decision (log entry 16) and has a
statement of its own. -/
def Obligations.TestAndModifyTestsBeforeItWrites : Prop :=
  ∀ s : State,
    let changes (i : Instr) (m : MemForm) (r : Byte) (len : Addr) : Prop :=
      ∃ t, exec i s = .next t ∧
        t = { s with p := { s.p with z := s.a &&& m.load s == 0 }, pc := s.pc + len, mem := t.mem } ∧
        s.wroteOnly t [((m.place s).storeCell s, r)]
    (∀ nn, changes (.trbBp nn) (.bp nn) (MemForm.load s (.bp nn) &&& ~~~s.a) 2) ∧
    (∀ nnnn, changes (.trbAbs nnnn) (.abs nnnn) (MemForm.load s (.abs nnnn) &&& ~~~s.a) 3) ∧
    (∀ nn, changes (.tsbBp nn) (.bp nn) (MemForm.load s (.bp nn) ||| s.a) 2) ∧
    (∀ nnnn, changes (.tsbAbs nnnn) (.abs nnnn) (MemForm.load s (.abs nnnn) ||| s.a) 3)

/-- In every state each of BBR0 to BBR7 completes: with bit 0 to 7 of the byte at offset nn of the base page clear,
PC becomes the address of the instruction plus 3 plus the signed displacement, modulo 65536; otherwise the
address plus 3; nothing else changes. The order of the two operands and the base of the displacement are the
spec's decision D13 (R161, log entry 16), and that the byte lies in the base page, not in page zero, is its
resolution of a conflict in the source (90_conflicts.md C15, log entry 22). -/
def Obligations.BbrBranchesOnABitClear : Prop :=
  ∀ (s : State) (nn rr : Byte),
    let branches (i : Instr) (n : Nat) : Prop :=
      exec i s = .next { s with
        pc := if (s.readByte (s.bpAddr nn)).getLsbD n = false then BitVec.ofInt 16 (s.pc.toNat + 3 + rr.toInt)
              else s.pc + 3 }
    branches (.bbr0 nn rr) 0 ∧ branches (.bbr1 nn rr) 1 ∧ branches (.bbr2 nn rr) 2 ∧ branches (.bbr3 nn rr) 3 ∧
    branches (.bbr4 nn rr) 4 ∧ branches (.bbr5 nn rr) 5 ∧ branches (.bbr6 nn rr) 6 ∧ branches (.bbr7 nn rr) 7

/-- In every state each of BBS0 to BBS7 completes: with bit 0 to 7 of the byte at offset nn of the base page set, PC
becomes the address of the instruction plus 3 plus the signed displacement, modulo 65536; otherwise the address
plus 3; nothing else changes. The order of the two operands and the base of the displacement are the spec's
decision D13 (R161, log entry 16), and that the byte lies in the base page, not in page zero, is its resolution
of a conflict in the source (90_conflicts.md C15, log entry 22). -/
def Obligations.BbsBranchesOnABitSet : Prop :=
  ∀ (s : State) (nn rr : Byte),
    let branches (i : Instr) (n : Nat) : Prop :=
      exec i s = .next { s with
        pc := if (s.readByte (s.bpAddr nn)).getLsbD n = true then BitVec.ofInt 16 (s.pc.toNat + 3 + rr.toInt)
              else s.pc + 3 }
    branches (.bbs0 nn rr) 0 ∧ branches (.bbs1 nn rr) 1 ∧ branches (.bbs2 nn rr) 2 ∧ branches (.bbs3 nn rr) 3 ∧
    branches (.bbs4 nn rr) 4 ∧ branches (.bbs5 nn rr) 5 ∧ branches (.bbs6 nn rr) 6 ∧ branches (.bbs7 nn rr) 7

/-- In every state each of the 18 forms of BCC, BCS, BEQ, BMI, BNE, BPL, BRA, BVC and BVS completes: when the
condition on its one flag holds (always, for BRA) PC becomes the address of the instruction plus 2 plus the
signed byte, or plus REL16_BASE plus the word, modulo 65536; otherwise the address plus 2 or 3; nothing else
changes. The base of a displacement is the spec's decision D13 for the byte form and an open parameter, D14, for
the word form (log entries 1, 16). -/
def Obligations.BranchesFollowTheirCondition : Prop :=
  ∀ s : State,
    let byteForm (i : Instr) (cond : Bool) (rr : Byte) : Prop :=
      exec i s = .next { s with pc := if cond then BitVec.ofInt 16 (s.pc.toNat + 2 + rr.toInt) else s.pc + 2 }
    let wordForm (i : Instr) (cond : Bool) (rrrr : Addr) : Prop :=
      exec i s = .next { s with
        pc := if cond then BitVec.ofNat 16 (s.pc.toNat + s.params.rel16Base + rrrr.toNat) else s.pc + 3 }
    (∀ rr, byteForm (.bccRel rr) (!s.p.c) rr) ∧ (∀ rrrr, wordForm (.bccRelw rrrr) (!s.p.c) rrrr) ∧
    (∀ rr, byteForm (.bcsRel rr) s.p.c rr) ∧ (∀ rrrr, wordForm (.bcsRelw rrrr) s.p.c rrrr) ∧
    (∀ rr, byteForm (.beqRel rr) s.p.z rr) ∧ (∀ rrrr, wordForm (.beqRelw rrrr) s.p.z rrrr) ∧
    (∀ rr, byteForm (.bmiRel rr) s.p.n rr) ∧ (∀ rrrr, wordForm (.bmiRelw rrrr) s.p.n rrrr) ∧
    (∀ rr, byteForm (.bneRel rr) (!s.p.z) rr) ∧ (∀ rrrr, wordForm (.bneRelw rrrr) (!s.p.z) rrrr) ∧
    (∀ rr, byteForm (.bplRel rr) (!s.p.n) rr) ∧ (∀ rrrr, wordForm (.bplRelw rrrr) (!s.p.n) rrrr) ∧
    (∀ rr, byteForm (.braRel rr) true rr) ∧ (∀ rrrr, wordForm (.braRelw rrrr) true rrrr) ∧
    (∀ rr, byteForm (.bvcRel rr) (!s.p.v) rr) ∧ (∀ rrrr, wordForm (.bvcRelw rrrr) (!s.p.v) rrrr) ∧
    (∀ rr, byteForm (.bvsRel rr) s.p.v rr) ∧ (∀ rrrr, wordForm (.bvsRelw rrrr) s.p.v rrrr)

/-- In every state the three forms of JMP complete: PC becomes nnnn, or the little-endian word at nnnn, or the
little-endian word at nnnn + X modulo 65536, and nothing else changes. That the pointer's high byte is read at
the next address without a page wrap is the spec's decision D11, and that addresses are taken modulo 65536 its
decision D10 (R157, R158, log entry 16). -/
def Obligations.JmpGoesToItsTarget : Prop :=
  ∀ (s : State) (nnnn : Addr),
    let jumps (i : Instr) (target : Addr) : Prop := exec i s = .next { s with pc := target }
    let wordAt (a : Addr) : Addr := wordOf (s.readByte (a + 1)) (s.readByte a)
    jumps (.jmpAbs nnnn) nnnn ∧ jumps (.jmpAbsind nnnn) (wordAt nnnn) ∧
      jumps (.jmpAbsindx nnnn) (wordAt (BitVec.ofNat 16 (nnnn.toNat + s.x.toNat)))

/-- In every state the three forms of JSR and the one of BSR complete: the high byte of the address of the
instruction plus 2 is written at SP and the low byte at SP - 1 (a later write to the same location wins), every
other byte of memory reads as before, SP moves down by two, PC becomes the target, read before the pushes, and
nothing else changes. Push order, the order of reads and pushes, what BSR pushes and the base of its
displacement are the spec's decisions D6, D33, D15 and D14 (log entries 1, 18, 28). -/
def Obligations.CallsPushTheAddressOfTheirLastByte : Prop :=
  ∀ (s : State) (nnnn : Addr),
    let calls (i : Instr) (target : Addr) : Prop :=
      ∃ t, exec i s = .next t ∧
        t = { s with sph := (s.spAdd (-2)).sph, spl := (s.spAdd (-2)).spl, pc := target, mem := t.mem } ∧
        s.wroteOnly t [(s.progCell .write s.sp, hiByte (s.pc + 2)),
          (s.progCell .write (s.spAdd (-1)).sp, loByte (s.pc + 2))]
    let wordAt (a : Addr) : Addr := wordOf (s.readByte (a + 1)) (s.readByte a)
    calls (.jsrAbs nnnn) nnnn ∧ calls (.jsrAbsind nnnn) (wordAt nnnn) ∧
      calls (.jsrAbsindx nnnn) (wordAt (BitVec.ofNat 16 (nnnn.toNat + s.x.toNat))) ∧
      calls (.bsr nnnn) (BitVec.ofNat 16 (s.pc.toNat + s.params.rel16Base + nnnn.toNat))

/-- In every state both forms of RTS complete. RTS: PC becomes the word whose low byte is at SP + 1 and high byte at
SP + 2, plus 1, and SP moves up by two. RTS #$nn: SP moves up by nn + 2, and the word is the one at SP + nn + 1
and SP + nn + 2 when RTS_IMM_ADJUST_FIRST is true, at SP + 1 and SP + 2 when it is false; PC becomes it plus 1.
Nothing else changes. The order of the two parts of RTS #$nn is a parameter (D26, log entry 3); how SP moves is
R65 and D39 (log entry 18). -/
def Obligations.RtsPullsTheAddressAndAddsOne : Prop :=
  ∀ (s : State) (nn : Byte),
    let returns (i : Instr) (dropped skipped : Addr) : Prop :=
      exec i s = .next { s with
        sph := (s.spAdd (dropped + 2)).sph, spl := (s.spAdd (dropped + 2)).spl
        pc := wordOf (s.readByte (s.spAdd (skipped + 2)).sp) (s.readByte (s.spAdd (skipped + 1)).sp) + 1 }
    let count := BitVec.ofNat 16 nn.toNat
    returns .rts 0 0 ∧ returns (.rtsImm nn) count (if s.params.rtsImmAdjustFirst then count else 0)

/-- In every state each of PHA, PHX, PHY and PHZ completes: the byte at SP becomes the register, every other byte of
memory reads as before, SP moves down by one as R65 says, PC moves on by one, and nothing else changes. That a
push stores at SP and moves the pointer after is the spec's decision D5, and that with P.E = 1 the pointer moves
within its page its decision D39 (log entry 18). -/
def Obligations.PushesStoreAtTheStackPointer : Prop :=
  ∀ s : State,
    let pushes (i : Instr) (v : Byte) : Prop :=
      ∃ t, exec i s = .next t ∧
        t = { s with sph := (s.spAdd (-1)).sph, spl := (s.spAdd (-1)).spl, pc := s.pc + 1, mem := t.mem } ∧
        s.wroteOnly t [(s.progCell .write s.sp, v)]
    pushes .pha s.a ∧ pushes .phx s.x ∧ pushes .phy s.y ∧ pushes .phz s.z

/-- In every state PHP and both forms of PHW complete. PHP: the byte at SP becomes PByte(1), SP moves down by one,
PC by one. PHW: the high byte of the word is written at SP and the low byte at SP - 1 (a later write to the same
location wins), the word being the literal or the little-endian word at the address; SP moves down by two, PC by
three. Every other byte of memory reads as before and nothing else changes. The flag layout, the Break bit and
the order of the pushes are the spec's decisions D2, D3, D4 and D7 (log entries 15, 18). -/
def Obligations.PhpAndPhwPushFlagsAndWords : Prop :=
  ∀ s : State,
    let pushes (i : Instr) (v : Byte) : Prop :=
      ∃ t, exec i s = .next t ∧
        t = { s with sph := (s.spAdd (-1)).sph, spl := (s.spAdd (-1)).spl, pc := s.pc + 1, mem := t.mem } ∧
        s.wroteOnly t [(s.progCell .write s.sp, v)]
    let pushesWord (i : Instr) (w : Addr) : Prop :=
      ∃ t, exec i s = .next t ∧
        t = { s with sph := (s.spAdd (-2)).sph, spl := (s.spAdd (-2)).spl, pc := s.pc + 3, mem := t.mem } ∧
        s.wroteOnly t [(s.progCell .write s.sp, hiByte w), (s.progCell .write (s.spAdd (-1)).sp, loByte w)]
    pushes .php (s.p.pbyte true) ∧ (∀ nnnn, pushesWord (.phwImmw nnnn) nnnn) ∧
      (∀ nnnn, pushesWord (.phwAbs nnnn) (wordOf (s.readByte (nnnn + 1)) (s.readByte nnnn)))

/-- In every state each of PLA, PLX, PLY, PLZ and PLP completes: SP moves up by one as R65 says; the register
becomes the byte at the new SP, with N and Z from it, or, for PLP, the flags N, V, D, I, Z, C become bits 7, 6,
3, 2, 1, 0 of it and P.E is kept; PC moves on by one; nothing else changes. That a pull moves the pointer first,
that PLA and its siblings set N and Z as the loads do, and the places of the bits are the spec's own (D5, D2,
rule R426's derivation; log entries 15, 18). -/
def Obligations.PullsReadAboveTheStackPointer : Prop :=
  ∀ s : State,
    let v := s.readByte (s.spAdd 1).sp
    let u : State := { s with sph := (s.spAdd 1).sph, spl := (s.spAdd 1).spl, pc := s.pc + 1 }
    let flags : PFlags := { s.p with n := v.getLsbD 7, z := v == 0 }
    exec .pla s = .next { u with a := v, p := flags } ∧ exec .plx s = .next { u with x := v, p := flags } ∧
      exec .ply s = .next { u with y := v, p := flags } ∧ exec .plz s = .next { u with z := v, p := flags } ∧
      exec .plp s = .next { u with
        p := { n := v.getLsbD 7, v := v.getLsbD 6, e := s.p.e, d := v.getLsbD 3, i := v.getLsbD 2, z := v.getLsbD 1
               c := v.getLsbD 0 } }

/-- In every state each of the nine flag instructions completes: its one flag becomes 0 or 1, PC moves on by one,
and nothing else changes. That the flag is written, although the source's own Flags line of each section reads
'-', is the spec's resolution of that conflict (90_conflicts.md C10, log entry 22). -/
def Obligations.FlagInstructionsSetOneFlag : Prop :=
  ∀ s : State,
    let sets (i : Instr) (p : PFlags) : Prop := exec i s = .next { s with p := p, pc := s.pc + 1 }
    sets .clc { s.p with c := false } ∧ sets .cld { s.p with d := false } ∧ sets .cle { s.p with e := false } ∧
      sets .cli { s.p with i := false } ∧ sets .clv { s.p with v := false } ∧ sets .sec { s.p with c := true } ∧
      sets .sed { s.p with d := true } ∧ sets .see { s.p with e := true } ∧ sets .sei { s.p with i := true }

/-- In every state MAP and EOM complete. MAP: the map becomes what MapLatch gives from A, X, Y, Z and the map
before, map_inhibit becomes 1 and PC moves on by one. EOM: map_inhibit becomes 0, eom_prefix 1 and PC moves on
by one. Nothing else changes, no register and no flag. With the C65 map of 93_ G4 (PRESUMED, log entry 5) the
new map is the four register bytes. -/
def Obligations.MapAndEomSetTheMapAndTheHiddenBits : Prop :=
  ∀ s : State,
    exec .map s = .next { s with
      mapState := mapLatch s.a s.x s.y s.z s.mapState, mapInhibit := true, pc := s.pc + 1 } ∧
    exec .eom s = .next { s with mapInhibit := false, eomPrefix := true, pc := s.pc + 1 } ∧
    (∀ ma mx my mz, mapLatch s.a s.x s.y s.z (.c65 ma mx my mz) = .c65 s.a s.x s.y s.z)
end

