-- ==== Sys2Proof/Laws/Bits.lean ====
section
/-! SUPPORT. The laws of byte order, sign extension and the flag byte. -/
namespace Sys2Proof.Machine

theorem wordOf_toNat (hi lo : Byte) : (wordOf hi lo).toNat = hi.toNat * 256 + lo.toNat := by
  have h := lo.isLt
  simp only [wordOf, BitVec.toNat_append, Nat.shiftLeft_eq]
  rw [show (256 : Nat) = 2 ^ 8 from rfl, ← Nat.shiftLeft_eq, ← Nat.shiftLeft_add_eq_or_of_lt (by simpa using h)]

theorem loByte_toNat (w : Addr) : (loByte w).toNat = w.toNat % 256 := by simp [loByte]

theorem hiByte_toNat (w : Addr) : (hiByte w).toNat = w.toNat / 256 := by
  simp only [hiByte, BitVec.extractLsb'_toNat, Nat.shiftRight_eq_div_pow]
  have := w.isLt
  omega

@[simp] theorem wordOf_hiByte_loByte (w : Addr) : wordOf (hiByte w) (loByte w) = w := by
  apply BitVec.eq_of_toNat_eq
  rw [wordOf_toNat, hiByte_toNat, loByte_toNat]
  omega

@[simp] theorem loByte_wordOf (hi lo : Byte) : loByte (wordOf hi lo) = lo := by
  apply BitVec.eq_of_toNat_eq
  have := lo.isLt
  rw [loByte_toNat, wordOf_toNat]
  omega

@[simp] theorem hiByte_wordOf (hi lo : Byte) : hiByte (wordOf hi lo) = hi := by
  apply BitVec.eq_of_toNat_eq
  have := lo.isLt
  rw [hiByte_toNat, wordOf_toNat]
  omega

/-- Restoring a pushed flag byte gives the flags back, whatever the Break bit was, but for `P.E` (R33, R35). -/
theorem PFlags.setP_pbyte (p q : PFlags) (brk : Bool) : q.setP (p.pbyte brk) = { p with e := q.e } := by
  rcases p with ⟨_ | _, _ | _, _ | _, _ | _, _ | _, _ | _, _ | _⟩ <;> cases brk <;> rfl

/-- The Break bit of the flag byte is the one asked for (R32, R33). -/
theorem PFlags.pbyte_break (p : PFlags) (brk : Bool) : (p.pbyte brk).getLsbD 4 = brk := by
  rcases p with ⟨_ | _, _ | _, _ | _, _ | _, _ | _, _ | _, _ | _⟩ <;> cases brk <;> rfl

/-- With no block mapped, translation is the identity into the low 64 KiB (R70, D21). -/
theorem c65Translate_unmapped (ma my : Byte) (addr : Addr) :
    c65Translate ma 0 my 0 addr = addr.zeroExtend 32 := by
  simp [c65Translate, BitVec.ofNat_toNat]

end Sys2Proof.Machine
end

