-- ==== Sys2Proof/Laws/Memory.lean ====
section
/-! SUPPORT. The laws of memory: a read after a write gives the value written, a write leaves every other location
alone (of any list, canonical or not), and a write keeps the canonical form. -/
namespace Sys2Proof.Machine

@[simp] theorem Memory.read_nil (k : Nat) : Memory.read [] k = unlistedByte := rfl

theorem Memory.read_cons (c : Host.Cell) (m : Memory) (k : Nat) :
    Memory.read (c :: m) k = if k < c.1 then unlistedByte else if k = c.1 then c.2 else Memory.read m k := rfl

/-- What lies above `k` reads the same from the entries above `k` alone. -/
theorem Memory.read_dropTo_of_lt (k k' : Nat) (m : Memory) (h : k < k') :
    (Memory.dropTo k m).read k' = m.read k' := by
  induction m with
  | nil => rfl
  | cons c rest ih =>
    simp only [Memory.dropTo]
    split
    · next hle =>
      rw [ih, Memory.read_cons, if_neg (by omega), if_neg (by omega)]
    · rfl

/-- Nothing at or below `k` is left once the entries up to `k` are gone. -/
theorem Memory.read_dropTo_of_ge (k k' : Nat) (m : Memory) (h : k' ≤ k) :
    (Memory.dropTo k m).read k' = unlistedByte := by
  induction m with
  | nil => rfl
  | cons c rest ih =>
    simp only [Memory.dropTo]
    split
    · exact ih
    · rw [Memory.read_cons, if_pos (by omega)]

/-- A read after a write to the same location gives the value written. -/
@[simp] theorem Memory.read_write_self (m : Memory) (k : Nat) (v : Byte) : (m.write k v).read k = v := by
  induction m with
  | nil => by_cases hv : v = unlistedByte <;> simp [Memory.write, hv, Memory.read_cons]
  | cons c rest ih =>
    obtain ⟨j, u⟩ := c
    simp only [Memory.write]
    split
    · next hlt =>
      by_cases hv : v = unlistedByte <;> simp [hv, Memory.read_cons, hlt]
    · next hge =>
      split
      · next heq =>
        by_cases hv : v = unlistedByte
        · simp [hv, Memory.read_dropTo_of_ge k k rest le_rfl]
        · simp [hv, Memory.read_cons]
      · next hne => simp [Memory.read_cons, hge, hne, ih]

/-- A write leaves every other location alone. -/
theorem Memory.read_write_of_ne (m : Memory) (k k' : Nat) (v : Byte) (h : k' ≠ k) :
    (m.write k v).read k' = m.read k' := by
  induction m with
  | nil => by_cases hv : v = unlistedByte <;> simp [Memory.write, hv, Memory.read_cons, h]
  | cons c rest ih =>
    obtain ⟨j, u⟩ := c
    simp only [Memory.write]
    split
    · next hlt =>
      by_cases hv : v = unlistedByte
      · simp [hv]
      · simp only [hv, if_false, Memory.read_cons, h]
        by_cases h1 : k' < k
        · simp [h1, show k' < j by omega]
        · simp [h1]
    · next hge =>
      split
      · next heq =>
        subst heq
        by_cases hv : v = unlistedByte
        · by_cases h1 : k' < k
          · simp [hv, Memory.read_cons, h1, Memory.read_dropTo_of_ge k k' rest (by omega)]
          · simp [hv, Memory.read_cons, h1, h, Memory.read_dropTo_of_lt k k' rest (by omega)]
        · simp [hv, Memory.read_cons, h]
      · simp [Memory.read_cons, ih]

/-- Both laws at once. -/
theorem Memory.read_write (m : Memory) (k k' : Nat) (v : Byte) :
    (m.write k v).read k' = if k = k' then v else m.read k' := by
  split
  · next h => subst h; simp
  · next h => exact Memory.read_write_of_ne m k k' v (Ne.symm h)

/-! ### The canonical form -/

/-- The canonical form of a longer list: its head lies below the rest and holds something. -/
theorem Memory.wf_cons (c : Host.Cell) (m : Memory) :
    Memory.wf (c :: m) = true ↔ (∀ d ∈ m, c.1 < d.1) ∧ c.2 ≠ unlistedByte ∧ Memory.wf m = true := by
  simp only [Memory.wf, List.pairwise_cons, List.all_cons, Bool.and_eq_true, decide_eq_true_eq, bne_iff_ne]
  tauto

@[simp] theorem Memory.wf_nil : Memory.wf [] = true := rfl

/-- The entries left above `k` are entries of the list. -/
theorem Memory.mem_of_mem_dropTo {k : Nat} {m : Memory} {d : Host.Cell} (h : d ∈ Memory.dropTo k m) : d ∈ m := by
  induction m with
  | nil => exact h
  | cons c rest ih =>
    simp only [Memory.dropTo] at h
    split at h
    · exact List.mem_cons_of_mem _ (ih h)
    · exact h

theorem Memory.wf_dropTo (k : Nat) (m : Memory) (h : m.wf = true) : (Memory.dropTo k m).wf = true := by
  induction m with
  | nil => rfl
  | cons c rest ih =>
    simp only [Memory.dropTo]
    split
    · exact ih ((Memory.wf_cons _ _).1 h).2.2
    · exact h

/-- An entry of a written memory is the one written or was there before. -/
theorem Memory.mem_write {m : Memory} {k : Nat} {v : Byte} {d : Host.Cell} (h : d ∈ m.write k v) :
    d = (k, v) ∨ d ∈ m := by
  induction m with
  | nil =>
    simp only [Memory.write] at h
    split at h
    · exact absurd h List.not_mem_nil
    · exact .inl (List.mem_singleton.1 h)
  | cons c rest ih =>
    obtain ⟨j, u⟩ := c
    simp only [Memory.write] at h
    split at h
    · split at h
      · exact .inr h
      · exact List.mem_cons.1 h
    · split at h
      · split at h
        · exact .inr (List.mem_cons_of_mem _ (Memory.mem_of_mem_dropTo h))
        · exact (List.mem_cons.1 h).imp_right (List.mem_cons_of_mem _)
      · rcases List.mem_cons.1 h with rfl | h
        · exact .inr List.mem_cons_self
        · exact (ih h).imp_right (List.mem_cons_of_mem _)

/-- A write keeps the canonical form. -/
theorem Memory.wf_write (m : Memory) (k : Nat) (v : Byte) (h : m.wf = true) : (m.write k v).wf = true := by
  induction m with
  | nil => by_cases hv : v = unlistedByte <;> simp [Memory.write, hv, Memory.wf_cons]
  | cons c rest ih =>
    obtain ⟨j, u⟩ := c
    obtain ⟨hlt, hu, hrest⟩ := (Memory.wf_cons _ _).1 h
    simp only [Memory.write]
    split
    · next hkj =>
      split
      · exact h
      · next hv =>
        refine (Memory.wf_cons _ _).2 ⟨fun d hd => ?_, hv, h⟩
        rcases List.mem_cons.1 hd with rfl | hd
        · exact hkj
        · exact lt_trans hkj (hlt d hd)
    · next hkj =>
      split
      · next heq =>
        subst heq
        split
        · exact Memory.wf_dropTo k rest hrest
        · next hv => exact (Memory.wf_cons _ _).2 ⟨hlt, hv, hrest⟩
      · next hne =>
        refine (Memory.wf_cons _ _).2 ⟨fun d hd => ?_, hu, ih hrest⟩
        rcases Memory.mem_write hd with rfl | hd
        · exact show j < k by omega
        · exact hlt d hd

end Sys2Proof.Machine
end

