-- ==== Sys2Proof/Laws/State.lean ====
section
/-! SUPPORT. One lemma for each field of the state under each update of one, so that no proof unfolds a record
update. -/
namespace Sys2Proof.Machine

variable (s : State)

/-! #### setA -/

@[simp] theorem State.setA_a (v : Byte) : (s.setA v).a = v := rfl
@[simp] theorem State.setA_x (v : Byte) : (s.setA v).x = s.x := rfl
@[simp] theorem State.setA_y (v : Byte) : (s.setA v).y = s.y := rfl
@[simp] theorem State.setA_z (v : Byte) : (s.setA v).z = s.z := rfl
@[simp] theorem State.setA_b (v : Byte) : (s.setA v).b = s.b := rfl
@[simp] theorem State.setA_sph (v : Byte) : (s.setA v).sph = s.sph := rfl
@[simp] theorem State.setA_spl (v : Byte) : (s.setA v).spl = s.spl := rfl
@[simp] theorem State.setA_pc (v : Byte) : (s.setA v).pc = s.pc := rfl
@[simp] theorem State.setA_p (v : Byte) : (s.setA v).p = s.p := rfl
@[simp] theorem State.setA_mapInhibit (v : Byte) : (s.setA v).mapInhibit = s.mapInhibit := rfl
@[simp] theorem State.setA_eomPrefix (v : Byte) : (s.setA v).eomPrefix = s.eomPrefix := rfl
@[simp] theorem State.setA_nmiPending (v : Byte) : (s.setA v).nmiPending = s.nmiPending := rfl
@[simp] theorem State.setA_mapState (v : Byte) : (s.setA v).mapState = s.mapState := rfl
@[simp] theorem State.setA_mem (v : Byte) : (s.setA v).mem = s.mem := rfl
@[simp] theorem State.setA_inputs (v : Byte) : (s.setA v).inputs = s.inputs := rfl
@[simp] theorem State.setA_params (v : Byte) : (s.setA v).params = s.params := rfl
@[simp] theorem State.setA_draws (v : Byte) : (s.setA v).draws = s.draws := rfl

/-! #### setX -/

@[simp] theorem State.setX_a (v : Byte) : (s.setX v).a = s.a := rfl
@[simp] theorem State.setX_x (v : Byte) : (s.setX v).x = v := rfl
@[simp] theorem State.setX_y (v : Byte) : (s.setX v).y = s.y := rfl
@[simp] theorem State.setX_z (v : Byte) : (s.setX v).z = s.z := rfl
@[simp] theorem State.setX_b (v : Byte) : (s.setX v).b = s.b := rfl
@[simp] theorem State.setX_sph (v : Byte) : (s.setX v).sph = s.sph := rfl
@[simp] theorem State.setX_spl (v : Byte) : (s.setX v).spl = s.spl := rfl
@[simp] theorem State.setX_pc (v : Byte) : (s.setX v).pc = s.pc := rfl
@[simp] theorem State.setX_p (v : Byte) : (s.setX v).p = s.p := rfl
@[simp] theorem State.setX_mapInhibit (v : Byte) : (s.setX v).mapInhibit = s.mapInhibit := rfl
@[simp] theorem State.setX_eomPrefix (v : Byte) : (s.setX v).eomPrefix = s.eomPrefix := rfl
@[simp] theorem State.setX_nmiPending (v : Byte) : (s.setX v).nmiPending = s.nmiPending := rfl
@[simp] theorem State.setX_mapState (v : Byte) : (s.setX v).mapState = s.mapState := rfl
@[simp] theorem State.setX_mem (v : Byte) : (s.setX v).mem = s.mem := rfl
@[simp] theorem State.setX_inputs (v : Byte) : (s.setX v).inputs = s.inputs := rfl
@[simp] theorem State.setX_params (v : Byte) : (s.setX v).params = s.params := rfl
@[simp] theorem State.setX_draws (v : Byte) : (s.setX v).draws = s.draws := rfl

/-! #### setY -/

@[simp] theorem State.setY_a (v : Byte) : (s.setY v).a = s.a := rfl
@[simp] theorem State.setY_x (v : Byte) : (s.setY v).x = s.x := rfl
@[simp] theorem State.setY_y (v : Byte) : (s.setY v).y = v := rfl
@[simp] theorem State.setY_z (v : Byte) : (s.setY v).z = s.z := rfl
@[simp] theorem State.setY_b (v : Byte) : (s.setY v).b = s.b := rfl
@[simp] theorem State.setY_sph (v : Byte) : (s.setY v).sph = s.sph := rfl
@[simp] theorem State.setY_spl (v : Byte) : (s.setY v).spl = s.spl := rfl
@[simp] theorem State.setY_pc (v : Byte) : (s.setY v).pc = s.pc := rfl
@[simp] theorem State.setY_p (v : Byte) : (s.setY v).p = s.p := rfl
@[simp] theorem State.setY_mapInhibit (v : Byte) : (s.setY v).mapInhibit = s.mapInhibit := rfl
@[simp] theorem State.setY_eomPrefix (v : Byte) : (s.setY v).eomPrefix = s.eomPrefix := rfl
@[simp] theorem State.setY_nmiPending (v : Byte) : (s.setY v).nmiPending = s.nmiPending := rfl
@[simp] theorem State.setY_mapState (v : Byte) : (s.setY v).mapState = s.mapState := rfl
@[simp] theorem State.setY_mem (v : Byte) : (s.setY v).mem = s.mem := rfl
@[simp] theorem State.setY_inputs (v : Byte) : (s.setY v).inputs = s.inputs := rfl
@[simp] theorem State.setY_params (v : Byte) : (s.setY v).params = s.params := rfl
@[simp] theorem State.setY_draws (v : Byte) : (s.setY v).draws = s.draws := rfl

/-! #### setZ -/

@[simp] theorem State.setZ_a (v : Byte) : (s.setZ v).a = s.a := rfl
@[simp] theorem State.setZ_x (v : Byte) : (s.setZ v).x = s.x := rfl
@[simp] theorem State.setZ_y (v : Byte) : (s.setZ v).y = s.y := rfl
@[simp] theorem State.setZ_z (v : Byte) : (s.setZ v).z = v := rfl
@[simp] theorem State.setZ_b (v : Byte) : (s.setZ v).b = s.b := rfl
@[simp] theorem State.setZ_sph (v : Byte) : (s.setZ v).sph = s.sph := rfl
@[simp] theorem State.setZ_spl (v : Byte) : (s.setZ v).spl = s.spl := rfl
@[simp] theorem State.setZ_pc (v : Byte) : (s.setZ v).pc = s.pc := rfl
@[simp] theorem State.setZ_p (v : Byte) : (s.setZ v).p = s.p := rfl
@[simp] theorem State.setZ_mapInhibit (v : Byte) : (s.setZ v).mapInhibit = s.mapInhibit := rfl
@[simp] theorem State.setZ_eomPrefix (v : Byte) : (s.setZ v).eomPrefix = s.eomPrefix := rfl
@[simp] theorem State.setZ_nmiPending (v : Byte) : (s.setZ v).nmiPending = s.nmiPending := rfl
@[simp] theorem State.setZ_mapState (v : Byte) : (s.setZ v).mapState = s.mapState := rfl
@[simp] theorem State.setZ_mem (v : Byte) : (s.setZ v).mem = s.mem := rfl
@[simp] theorem State.setZ_inputs (v : Byte) : (s.setZ v).inputs = s.inputs := rfl
@[simp] theorem State.setZ_params (v : Byte) : (s.setZ v).params = s.params := rfl
@[simp] theorem State.setZ_draws (v : Byte) : (s.setZ v).draws = s.draws := rfl

/-! #### setB -/

@[simp] theorem State.setB_a (v : Byte) : (s.setB v).a = s.a := rfl
@[simp] theorem State.setB_x (v : Byte) : (s.setB v).x = s.x := rfl
@[simp] theorem State.setB_y (v : Byte) : (s.setB v).y = s.y := rfl
@[simp] theorem State.setB_z (v : Byte) : (s.setB v).z = s.z := rfl
@[simp] theorem State.setB_b (v : Byte) : (s.setB v).b = v := rfl
@[simp] theorem State.setB_sph (v : Byte) : (s.setB v).sph = s.sph := rfl
@[simp] theorem State.setB_spl (v : Byte) : (s.setB v).spl = s.spl := rfl
@[simp] theorem State.setB_pc (v : Byte) : (s.setB v).pc = s.pc := rfl
@[simp] theorem State.setB_p (v : Byte) : (s.setB v).p = s.p := rfl
@[simp] theorem State.setB_mapInhibit (v : Byte) : (s.setB v).mapInhibit = s.mapInhibit := rfl
@[simp] theorem State.setB_eomPrefix (v : Byte) : (s.setB v).eomPrefix = s.eomPrefix := rfl
@[simp] theorem State.setB_nmiPending (v : Byte) : (s.setB v).nmiPending = s.nmiPending := rfl
@[simp] theorem State.setB_mapState (v : Byte) : (s.setB v).mapState = s.mapState := rfl
@[simp] theorem State.setB_mem (v : Byte) : (s.setB v).mem = s.mem := rfl
@[simp] theorem State.setB_inputs (v : Byte) : (s.setB v).inputs = s.inputs := rfl
@[simp] theorem State.setB_params (v : Byte) : (s.setB v).params = s.params := rfl
@[simp] theorem State.setB_draws (v : Byte) : (s.setB v).draws = s.draws := rfl

/-! #### setSph -/

@[simp] theorem State.setSph_a (v : Byte) : (s.setSph v).a = s.a := rfl
@[simp] theorem State.setSph_x (v : Byte) : (s.setSph v).x = s.x := rfl
@[simp] theorem State.setSph_y (v : Byte) : (s.setSph v).y = s.y := rfl
@[simp] theorem State.setSph_z (v : Byte) : (s.setSph v).z = s.z := rfl
@[simp] theorem State.setSph_b (v : Byte) : (s.setSph v).b = s.b := rfl
@[simp] theorem State.setSph_sph (v : Byte) : (s.setSph v).sph = v := rfl
@[simp] theorem State.setSph_spl (v : Byte) : (s.setSph v).spl = s.spl := rfl
@[simp] theorem State.setSph_pc (v : Byte) : (s.setSph v).pc = s.pc := rfl
@[simp] theorem State.setSph_p (v : Byte) : (s.setSph v).p = s.p := rfl
@[simp] theorem State.setSph_mapInhibit (v : Byte) : (s.setSph v).mapInhibit = s.mapInhibit := rfl
@[simp] theorem State.setSph_eomPrefix (v : Byte) : (s.setSph v).eomPrefix = s.eomPrefix := rfl
@[simp] theorem State.setSph_nmiPending (v : Byte) : (s.setSph v).nmiPending = s.nmiPending := rfl
@[simp] theorem State.setSph_mapState (v : Byte) : (s.setSph v).mapState = s.mapState := rfl
@[simp] theorem State.setSph_mem (v : Byte) : (s.setSph v).mem = s.mem := rfl
@[simp] theorem State.setSph_inputs (v : Byte) : (s.setSph v).inputs = s.inputs := rfl
@[simp] theorem State.setSph_params (v : Byte) : (s.setSph v).params = s.params := rfl
@[simp] theorem State.setSph_draws (v : Byte) : (s.setSph v).draws = s.draws := rfl

/-! #### setSpl -/

@[simp] theorem State.setSpl_a (v : Byte) : (s.setSpl v).a = s.a := rfl
@[simp] theorem State.setSpl_x (v : Byte) : (s.setSpl v).x = s.x := rfl
@[simp] theorem State.setSpl_y (v : Byte) : (s.setSpl v).y = s.y := rfl
@[simp] theorem State.setSpl_z (v : Byte) : (s.setSpl v).z = s.z := rfl
@[simp] theorem State.setSpl_b (v : Byte) : (s.setSpl v).b = s.b := rfl
@[simp] theorem State.setSpl_sph (v : Byte) : (s.setSpl v).sph = s.sph := rfl
@[simp] theorem State.setSpl_spl (v : Byte) : (s.setSpl v).spl = v := rfl
@[simp] theorem State.setSpl_pc (v : Byte) : (s.setSpl v).pc = s.pc := rfl
@[simp] theorem State.setSpl_p (v : Byte) : (s.setSpl v).p = s.p := rfl
@[simp] theorem State.setSpl_mapInhibit (v : Byte) : (s.setSpl v).mapInhibit = s.mapInhibit := rfl
@[simp] theorem State.setSpl_eomPrefix (v : Byte) : (s.setSpl v).eomPrefix = s.eomPrefix := rfl
@[simp] theorem State.setSpl_nmiPending (v : Byte) : (s.setSpl v).nmiPending = s.nmiPending := rfl
@[simp] theorem State.setSpl_mapState (v : Byte) : (s.setSpl v).mapState = s.mapState := rfl
@[simp] theorem State.setSpl_mem (v : Byte) : (s.setSpl v).mem = s.mem := rfl
@[simp] theorem State.setSpl_inputs (v : Byte) : (s.setSpl v).inputs = s.inputs := rfl
@[simp] theorem State.setSpl_params (v : Byte) : (s.setSpl v).params = s.params := rfl
@[simp] theorem State.setSpl_draws (v : Byte) : (s.setSpl v).draws = s.draws := rfl

/-! #### setPc -/

@[simp] theorem State.setPc_a (v : Addr) : (s.setPc v).a = s.a := rfl
@[simp] theorem State.setPc_x (v : Addr) : (s.setPc v).x = s.x := rfl
@[simp] theorem State.setPc_y (v : Addr) : (s.setPc v).y = s.y := rfl
@[simp] theorem State.setPc_z (v : Addr) : (s.setPc v).z = s.z := rfl
@[simp] theorem State.setPc_b (v : Addr) : (s.setPc v).b = s.b := rfl
@[simp] theorem State.setPc_sph (v : Addr) : (s.setPc v).sph = s.sph := rfl
@[simp] theorem State.setPc_spl (v : Addr) : (s.setPc v).spl = s.spl := rfl
@[simp] theorem State.setPc_pc (v : Addr) : (s.setPc v).pc = v := rfl
@[simp] theorem State.setPc_p (v : Addr) : (s.setPc v).p = s.p := rfl
@[simp] theorem State.setPc_mapInhibit (v : Addr) : (s.setPc v).mapInhibit = s.mapInhibit := rfl
@[simp] theorem State.setPc_eomPrefix (v : Addr) : (s.setPc v).eomPrefix = s.eomPrefix := rfl
@[simp] theorem State.setPc_nmiPending (v : Addr) : (s.setPc v).nmiPending = s.nmiPending := rfl
@[simp] theorem State.setPc_mapState (v : Addr) : (s.setPc v).mapState = s.mapState := rfl
@[simp] theorem State.setPc_mem (v : Addr) : (s.setPc v).mem = s.mem := rfl
@[simp] theorem State.setPc_inputs (v : Addr) : (s.setPc v).inputs = s.inputs := rfl
@[simp] theorem State.setPc_params (v : Addr) : (s.setPc v).params = s.params := rfl
@[simp] theorem State.setPc_draws (v : Addr) : (s.setPc v).draws = s.draws := rfl

/-! #### setFlags -/

@[simp] theorem State.setFlags_a (v : PFlags) : (s.setFlags v).a = s.a := rfl
@[simp] theorem State.setFlags_x (v : PFlags) : (s.setFlags v).x = s.x := rfl
@[simp] theorem State.setFlags_y (v : PFlags) : (s.setFlags v).y = s.y := rfl
@[simp] theorem State.setFlags_z (v : PFlags) : (s.setFlags v).z = s.z := rfl
@[simp] theorem State.setFlags_b (v : PFlags) : (s.setFlags v).b = s.b := rfl
@[simp] theorem State.setFlags_sph (v : PFlags) : (s.setFlags v).sph = s.sph := rfl
@[simp] theorem State.setFlags_spl (v : PFlags) : (s.setFlags v).spl = s.spl := rfl
@[simp] theorem State.setFlags_pc (v : PFlags) : (s.setFlags v).pc = s.pc := rfl
@[simp] theorem State.setFlags_p (v : PFlags) : (s.setFlags v).p = v := rfl
@[simp] theorem State.setFlags_mapInhibit (v : PFlags) : (s.setFlags v).mapInhibit = s.mapInhibit := rfl
@[simp] theorem State.setFlags_eomPrefix (v : PFlags) : (s.setFlags v).eomPrefix = s.eomPrefix := rfl
@[simp] theorem State.setFlags_nmiPending (v : PFlags) : (s.setFlags v).nmiPending = s.nmiPending := rfl
@[simp] theorem State.setFlags_mapState (v : PFlags) : (s.setFlags v).mapState = s.mapState := rfl
@[simp] theorem State.setFlags_mem (v : PFlags) : (s.setFlags v).mem = s.mem := rfl
@[simp] theorem State.setFlags_inputs (v : PFlags) : (s.setFlags v).inputs = s.inputs := rfl
@[simp] theorem State.setFlags_params (v : PFlags) : (s.setFlags v).params = s.params := rfl
@[simp] theorem State.setFlags_draws (v : PFlags) : (s.setFlags v).draws = s.draws := rfl

/-! #### setMem -/

@[simp] theorem State.setMem_a (v : Memory) : (s.setMem v).a = s.a := rfl
@[simp] theorem State.setMem_x (v : Memory) : (s.setMem v).x = s.x := rfl
@[simp] theorem State.setMem_y (v : Memory) : (s.setMem v).y = s.y := rfl
@[simp] theorem State.setMem_z (v : Memory) : (s.setMem v).z = s.z := rfl
@[simp] theorem State.setMem_b (v : Memory) : (s.setMem v).b = s.b := rfl
@[simp] theorem State.setMem_sph (v : Memory) : (s.setMem v).sph = s.sph := rfl
@[simp] theorem State.setMem_spl (v : Memory) : (s.setMem v).spl = s.spl := rfl
@[simp] theorem State.setMem_pc (v : Memory) : (s.setMem v).pc = s.pc := rfl
@[simp] theorem State.setMem_p (v : Memory) : (s.setMem v).p = s.p := rfl
@[simp] theorem State.setMem_mapInhibit (v : Memory) : (s.setMem v).mapInhibit = s.mapInhibit := rfl
@[simp] theorem State.setMem_eomPrefix (v : Memory) : (s.setMem v).eomPrefix = s.eomPrefix := rfl
@[simp] theorem State.setMem_nmiPending (v : Memory) : (s.setMem v).nmiPending = s.nmiPending := rfl
@[simp] theorem State.setMem_mapState (v : Memory) : (s.setMem v).mapState = s.mapState := rfl
@[simp] theorem State.setMem_mem (v : Memory) : (s.setMem v).mem = v := rfl
@[simp] theorem State.setMem_inputs (v : Memory) : (s.setMem v).inputs = s.inputs := rfl
@[simp] theorem State.setMem_params (v : Memory) : (s.setMem v).params = s.params := rfl
@[simp] theorem State.setMem_draws (v : Memory) : (s.setMem v).draws = s.draws := rfl

/-! #### setMapInhibit -/

@[simp] theorem State.setMapInhibit_a (v : Bool) : (s.setMapInhibit v).a = s.a := rfl
@[simp] theorem State.setMapInhibit_x (v : Bool) : (s.setMapInhibit v).x = s.x := rfl
@[simp] theorem State.setMapInhibit_y (v : Bool) : (s.setMapInhibit v).y = s.y := rfl
@[simp] theorem State.setMapInhibit_z (v : Bool) : (s.setMapInhibit v).z = s.z := rfl
@[simp] theorem State.setMapInhibit_b (v : Bool) : (s.setMapInhibit v).b = s.b := rfl
@[simp] theorem State.setMapInhibit_sph (v : Bool) : (s.setMapInhibit v).sph = s.sph := rfl
@[simp] theorem State.setMapInhibit_spl (v : Bool) : (s.setMapInhibit v).spl = s.spl := rfl
@[simp] theorem State.setMapInhibit_pc (v : Bool) : (s.setMapInhibit v).pc = s.pc := rfl
@[simp] theorem State.setMapInhibit_p (v : Bool) : (s.setMapInhibit v).p = s.p := rfl
@[simp] theorem State.setMapInhibit_mapInhibit (v : Bool) : (s.setMapInhibit v).mapInhibit = v := rfl
@[simp] theorem State.setMapInhibit_eomPrefix (v : Bool) : (s.setMapInhibit v).eomPrefix = s.eomPrefix := rfl
@[simp] theorem State.setMapInhibit_nmiPending (v : Bool) : (s.setMapInhibit v).nmiPending = s.nmiPending := rfl
@[simp] theorem State.setMapInhibit_mapState (v : Bool) : (s.setMapInhibit v).mapState = s.mapState := rfl
@[simp] theorem State.setMapInhibit_mem (v : Bool) : (s.setMapInhibit v).mem = s.mem := rfl
@[simp] theorem State.setMapInhibit_inputs (v : Bool) : (s.setMapInhibit v).inputs = s.inputs := rfl
@[simp] theorem State.setMapInhibit_params (v : Bool) : (s.setMapInhibit v).params = s.params := rfl
@[simp] theorem State.setMapInhibit_draws (v : Bool) : (s.setMapInhibit v).draws = s.draws := rfl

/-! #### setEomPrefix -/

@[simp] theorem State.setEomPrefix_a (v : Bool) : (s.setEomPrefix v).a = s.a := rfl
@[simp] theorem State.setEomPrefix_x (v : Bool) : (s.setEomPrefix v).x = s.x := rfl
@[simp] theorem State.setEomPrefix_y (v : Bool) : (s.setEomPrefix v).y = s.y := rfl
@[simp] theorem State.setEomPrefix_z (v : Bool) : (s.setEomPrefix v).z = s.z := rfl
@[simp] theorem State.setEomPrefix_b (v : Bool) : (s.setEomPrefix v).b = s.b := rfl
@[simp] theorem State.setEomPrefix_sph (v : Bool) : (s.setEomPrefix v).sph = s.sph := rfl
@[simp] theorem State.setEomPrefix_spl (v : Bool) : (s.setEomPrefix v).spl = s.spl := rfl
@[simp] theorem State.setEomPrefix_pc (v : Bool) : (s.setEomPrefix v).pc = s.pc := rfl
@[simp] theorem State.setEomPrefix_p (v : Bool) : (s.setEomPrefix v).p = s.p := rfl
@[simp] theorem State.setEomPrefix_mapInhibit (v : Bool) : (s.setEomPrefix v).mapInhibit = s.mapInhibit := rfl
@[simp] theorem State.setEomPrefix_eomPrefix (v : Bool) : (s.setEomPrefix v).eomPrefix = v := rfl
@[simp] theorem State.setEomPrefix_nmiPending (v : Bool) : (s.setEomPrefix v).nmiPending = s.nmiPending := rfl
@[simp] theorem State.setEomPrefix_mapState (v : Bool) : (s.setEomPrefix v).mapState = s.mapState := rfl
@[simp] theorem State.setEomPrefix_mem (v : Bool) : (s.setEomPrefix v).mem = s.mem := rfl
@[simp] theorem State.setEomPrefix_inputs (v : Bool) : (s.setEomPrefix v).inputs = s.inputs := rfl
@[simp] theorem State.setEomPrefix_params (v : Bool) : (s.setEomPrefix v).params = s.params := rfl
@[simp] theorem State.setEomPrefix_draws (v : Bool) : (s.setEomPrefix v).draws = s.draws := rfl

/-! #### setNmiPending -/

@[simp] theorem State.setNmiPending_a (v : Bool) : (s.setNmiPending v).a = s.a := rfl
@[simp] theorem State.setNmiPending_x (v : Bool) : (s.setNmiPending v).x = s.x := rfl
@[simp] theorem State.setNmiPending_y (v : Bool) : (s.setNmiPending v).y = s.y := rfl
@[simp] theorem State.setNmiPending_z (v : Bool) : (s.setNmiPending v).z = s.z := rfl
@[simp] theorem State.setNmiPending_b (v : Bool) : (s.setNmiPending v).b = s.b := rfl
@[simp] theorem State.setNmiPending_sph (v : Bool) : (s.setNmiPending v).sph = s.sph := rfl
@[simp] theorem State.setNmiPending_spl (v : Bool) : (s.setNmiPending v).spl = s.spl := rfl
@[simp] theorem State.setNmiPending_pc (v : Bool) : (s.setNmiPending v).pc = s.pc := rfl
@[simp] theorem State.setNmiPending_p (v : Bool) : (s.setNmiPending v).p = s.p := rfl
@[simp] theorem State.setNmiPending_mapInhibit (v : Bool) : (s.setNmiPending v).mapInhibit = s.mapInhibit := rfl
@[simp] theorem State.setNmiPending_eomPrefix (v : Bool) : (s.setNmiPending v).eomPrefix = s.eomPrefix := rfl
@[simp] theorem State.setNmiPending_nmiPending (v : Bool) : (s.setNmiPending v).nmiPending = v := rfl
@[simp] theorem State.setNmiPending_mapState (v : Bool) : (s.setNmiPending v).mapState = s.mapState := rfl
@[simp] theorem State.setNmiPending_mem (v : Bool) : (s.setNmiPending v).mem = s.mem := rfl
@[simp] theorem State.setNmiPending_inputs (v : Bool) : (s.setNmiPending v).inputs = s.inputs := rfl
@[simp] theorem State.setNmiPending_params (v : Bool) : (s.setNmiPending v).params = s.params := rfl
@[simp] theorem State.setNmiPending_draws (v : Bool) : (s.setNmiPending v).draws = s.draws := rfl

/-! #### setMapState -/

@[simp] theorem State.setMapState_a (v : MapState) : (s.setMapState v).a = s.a := rfl
@[simp] theorem State.setMapState_x (v : MapState) : (s.setMapState v).x = s.x := rfl
@[simp] theorem State.setMapState_y (v : MapState) : (s.setMapState v).y = s.y := rfl
@[simp] theorem State.setMapState_z (v : MapState) : (s.setMapState v).z = s.z := rfl
@[simp] theorem State.setMapState_b (v : MapState) : (s.setMapState v).b = s.b := rfl
@[simp] theorem State.setMapState_sph (v : MapState) : (s.setMapState v).sph = s.sph := rfl
@[simp] theorem State.setMapState_spl (v : MapState) : (s.setMapState v).spl = s.spl := rfl
@[simp] theorem State.setMapState_pc (v : MapState) : (s.setMapState v).pc = s.pc := rfl
@[simp] theorem State.setMapState_p (v : MapState) : (s.setMapState v).p = s.p := rfl
@[simp] theorem State.setMapState_mapInhibit (v : MapState) : (s.setMapState v).mapInhibit = s.mapInhibit := rfl
@[simp] theorem State.setMapState_eomPrefix (v : MapState) : (s.setMapState v).eomPrefix = s.eomPrefix := rfl
@[simp] theorem State.setMapState_nmiPending (v : MapState) : (s.setMapState v).nmiPending = s.nmiPending := rfl
@[simp] theorem State.setMapState_mapState (v : MapState) : (s.setMapState v).mapState = v := rfl
@[simp] theorem State.setMapState_mem (v : MapState) : (s.setMapState v).mem = s.mem := rfl
@[simp] theorem State.setMapState_inputs (v : MapState) : (s.setMapState v).inputs = s.inputs := rfl
@[simp] theorem State.setMapState_params (v : MapState) : (s.setMapState v).params = s.params := rfl
@[simp] theorem State.setMapState_draws (v : MapState) : (s.setMapState v).draws = s.draws := rfl

/-! #### setInputs -/

@[simp] theorem State.setInputs_a (v : List EnvInput) : (s.setInputs v).a = s.a := rfl
@[simp] theorem State.setInputs_x (v : List EnvInput) : (s.setInputs v).x = s.x := rfl
@[simp] theorem State.setInputs_y (v : List EnvInput) : (s.setInputs v).y = s.y := rfl
@[simp] theorem State.setInputs_z (v : List EnvInput) : (s.setInputs v).z = s.z := rfl
@[simp] theorem State.setInputs_b (v : List EnvInput) : (s.setInputs v).b = s.b := rfl
@[simp] theorem State.setInputs_sph (v : List EnvInput) : (s.setInputs v).sph = s.sph := rfl
@[simp] theorem State.setInputs_spl (v : List EnvInput) : (s.setInputs v).spl = s.spl := rfl
@[simp] theorem State.setInputs_pc (v : List EnvInput) : (s.setInputs v).pc = s.pc := rfl
@[simp] theorem State.setInputs_p (v : List EnvInput) : (s.setInputs v).p = s.p := rfl
@[simp] theorem State.setInputs_mapInhibit (v : List EnvInput) : (s.setInputs v).mapInhibit = s.mapInhibit := rfl
@[simp] theorem State.setInputs_eomPrefix (v : List EnvInput) : (s.setInputs v).eomPrefix = s.eomPrefix := rfl
@[simp] theorem State.setInputs_nmiPending (v : List EnvInput) : (s.setInputs v).nmiPending = s.nmiPending := rfl
@[simp] theorem State.setInputs_mapState (v : List EnvInput) : (s.setInputs v).mapState = s.mapState := rfl
@[simp] theorem State.setInputs_mem (v : List EnvInput) : (s.setInputs v).mem = s.mem := rfl
@[simp] theorem State.setInputs_inputs (v : List EnvInput) : (s.setInputs v).inputs = v := rfl
@[simp] theorem State.setInputs_params (v : List EnvInput) : (s.setInputs v).params = s.params := rfl
@[simp] theorem State.setInputs_draws (v : List EnvInput) : (s.setInputs v).draws = s.draws := rfl

/-! #### setDraws -/

@[simp] theorem State.setDraws_a (v : Nat) : (s.setDraws v).a = s.a := rfl
@[simp] theorem State.setDraws_x (v : Nat) : (s.setDraws v).x = s.x := rfl
@[simp] theorem State.setDraws_y (v : Nat) : (s.setDraws v).y = s.y := rfl
@[simp] theorem State.setDraws_z (v : Nat) : (s.setDraws v).z = s.z := rfl
@[simp] theorem State.setDraws_b (v : Nat) : (s.setDraws v).b = s.b := rfl
@[simp] theorem State.setDraws_sph (v : Nat) : (s.setDraws v).sph = s.sph := rfl
@[simp] theorem State.setDraws_spl (v : Nat) : (s.setDraws v).spl = s.spl := rfl
@[simp] theorem State.setDraws_pc (v : Nat) : (s.setDraws v).pc = s.pc := rfl
@[simp] theorem State.setDraws_p (v : Nat) : (s.setDraws v).p = s.p := rfl
@[simp] theorem State.setDraws_mapInhibit (v : Nat) : (s.setDraws v).mapInhibit = s.mapInhibit := rfl
@[simp] theorem State.setDraws_eomPrefix (v : Nat) : (s.setDraws v).eomPrefix = s.eomPrefix := rfl
@[simp] theorem State.setDraws_nmiPending (v : Nat) : (s.setDraws v).nmiPending = s.nmiPending := rfl
@[simp] theorem State.setDraws_mapState (v : Nat) : (s.setDraws v).mapState = s.mapState := rfl
@[simp] theorem State.setDraws_mem (v : Nat) : (s.setDraws v).mem = s.mem := rfl
@[simp] theorem State.setDraws_inputs (v : Nat) : (s.setDraws v).inputs = s.inputs := rfl
@[simp] theorem State.setDraws_params (v : Nat) : (s.setDraws v).params = s.params := rfl
@[simp] theorem State.setDraws_draws (v : Nat) : (s.setDraws v).draws = v := rfl

/-! #### setNZ -/

@[simp] theorem State.setNZ_a (v : Byte) : (s.setNZ v).a = s.a := rfl
@[simp] theorem State.setNZ_x (v : Byte) : (s.setNZ v).x = s.x := rfl
@[simp] theorem State.setNZ_y (v : Byte) : (s.setNZ v).y = s.y := rfl
@[simp] theorem State.setNZ_z (v : Byte) : (s.setNZ v).z = s.z := rfl
@[simp] theorem State.setNZ_b (v : Byte) : (s.setNZ v).b = s.b := rfl
@[simp] theorem State.setNZ_sph (v : Byte) : (s.setNZ v).sph = s.sph := rfl
@[simp] theorem State.setNZ_spl (v : Byte) : (s.setNZ v).spl = s.spl := rfl
@[simp] theorem State.setNZ_pc (v : Byte) : (s.setNZ v).pc = s.pc := rfl
@[simp] theorem State.setNZ_p (v : Byte) : (s.setNZ v).p = s.p.setNZ v := rfl
@[simp] theorem State.setNZ_mapInhibit (v : Byte) : (s.setNZ v).mapInhibit = s.mapInhibit := rfl
@[simp] theorem State.setNZ_eomPrefix (v : Byte) : (s.setNZ v).eomPrefix = s.eomPrefix := rfl
@[simp] theorem State.setNZ_nmiPending (v : Byte) : (s.setNZ v).nmiPending = s.nmiPending := rfl
@[simp] theorem State.setNZ_mapState (v : Byte) : (s.setNZ v).mapState = s.mapState := rfl
@[simp] theorem State.setNZ_mem (v : Byte) : (s.setNZ v).mem = s.mem := rfl
@[simp] theorem State.setNZ_inputs (v : Byte) : (s.setNZ v).inputs = s.inputs := rfl
@[simp] theorem State.setNZ_params (v : Byte) : (s.setNZ v).params = s.params := rfl
@[simp] theorem State.setNZ_draws (v : Byte) : (s.setNZ v).draws = s.draws := rfl

/-! #### setNZ16 -/

@[simp] theorem State.setNZ16_a (w : Addr) : (s.setNZ16 w).a = s.a := rfl
@[simp] theorem State.setNZ16_x (w : Addr) : (s.setNZ16 w).x = s.x := rfl
@[simp] theorem State.setNZ16_y (w : Addr) : (s.setNZ16 w).y = s.y := rfl
@[simp] theorem State.setNZ16_z (w : Addr) : (s.setNZ16 w).z = s.z := rfl
@[simp] theorem State.setNZ16_b (w : Addr) : (s.setNZ16 w).b = s.b := rfl
@[simp] theorem State.setNZ16_sph (w : Addr) : (s.setNZ16 w).sph = s.sph := rfl
@[simp] theorem State.setNZ16_spl (w : Addr) : (s.setNZ16 w).spl = s.spl := rfl
@[simp] theorem State.setNZ16_pc (w : Addr) : (s.setNZ16 w).pc = s.pc := rfl
@[simp] theorem State.setNZ16_p (w : Addr) : (s.setNZ16 w).p = s.p.setNZ16 w := rfl
@[simp] theorem State.setNZ16_mapInhibit (w : Addr) : (s.setNZ16 w).mapInhibit = s.mapInhibit := rfl
@[simp] theorem State.setNZ16_eomPrefix (w : Addr) : (s.setNZ16 w).eomPrefix = s.eomPrefix := rfl
@[simp] theorem State.setNZ16_nmiPending (w : Addr) : (s.setNZ16 w).nmiPending = s.nmiPending := rfl
@[simp] theorem State.setNZ16_mapState (w : Addr) : (s.setNZ16 w).mapState = s.mapState := rfl
@[simp] theorem State.setNZ16_mem (w : Addr) : (s.setNZ16 w).mem = s.mem := rfl
@[simp] theorem State.setNZ16_inputs (w : Addr) : (s.setNZ16 w).inputs = s.inputs := rfl
@[simp] theorem State.setNZ16_params (w : Addr) : (s.setNZ16 w).params = s.params := rfl
@[simp] theorem State.setNZ16_draws (w : Addr) : (s.setNZ16 w).draws = s.draws := rfl

/-! #### setCarry -/

@[simp] theorem State.setCarry_a (c : Bool) : (s.setCarry c).a = s.a := rfl
@[simp] theorem State.setCarry_x (c : Bool) : (s.setCarry c).x = s.x := rfl
@[simp] theorem State.setCarry_y (c : Bool) : (s.setCarry c).y = s.y := rfl
@[simp] theorem State.setCarry_z (c : Bool) : (s.setCarry c).z = s.z := rfl
@[simp] theorem State.setCarry_b (c : Bool) : (s.setCarry c).b = s.b := rfl
@[simp] theorem State.setCarry_sph (c : Bool) : (s.setCarry c).sph = s.sph := rfl
@[simp] theorem State.setCarry_spl (c : Bool) : (s.setCarry c).spl = s.spl := rfl
@[simp] theorem State.setCarry_pc (c : Bool) : (s.setCarry c).pc = s.pc := rfl
@[simp] theorem State.setCarry_p (c : Bool) : (s.setCarry c).p = { s.p with c := c } := rfl
@[simp] theorem State.setCarry_mapInhibit (c : Bool) : (s.setCarry c).mapInhibit = s.mapInhibit := rfl
@[simp] theorem State.setCarry_eomPrefix (c : Bool) : (s.setCarry c).eomPrefix = s.eomPrefix := rfl
@[simp] theorem State.setCarry_nmiPending (c : Bool) : (s.setCarry c).nmiPending = s.nmiPending := rfl
@[simp] theorem State.setCarry_mapState (c : Bool) : (s.setCarry c).mapState = s.mapState := rfl
@[simp] theorem State.setCarry_mem (c : Bool) : (s.setCarry c).mem = s.mem := rfl
@[simp] theorem State.setCarry_inputs (c : Bool) : (s.setCarry c).inputs = s.inputs := rfl
@[simp] theorem State.setCarry_params (c : Bool) : (s.setCarry c).params = s.params := rfl
@[simp] theorem State.setCarry_draws (c : Bool) : (s.setCarry c).draws = s.draws := rfl

/-! #### advance -/

@[simp] theorem State.advance_a (k : Nat) : (s.advance k).a = s.a := rfl
@[simp] theorem State.advance_x (k : Nat) : (s.advance k).x = s.x := rfl
@[simp] theorem State.advance_y (k : Nat) : (s.advance k).y = s.y := rfl
@[simp] theorem State.advance_z (k : Nat) : (s.advance k).z = s.z := rfl
@[simp] theorem State.advance_b (k : Nat) : (s.advance k).b = s.b := rfl
@[simp] theorem State.advance_sph (k : Nat) : (s.advance k).sph = s.sph := rfl
@[simp] theorem State.advance_spl (k : Nat) : (s.advance k).spl = s.spl := rfl
@[simp] theorem State.advance_pc (k : Nat) : (s.advance k).pc = s.pc + BitVec.ofNat 16 k := rfl
@[simp] theorem State.advance_p (k : Nat) : (s.advance k).p = s.p := rfl
@[simp] theorem State.advance_mapInhibit (k : Nat) : (s.advance k).mapInhibit = s.mapInhibit := rfl
@[simp] theorem State.advance_eomPrefix (k : Nat) : (s.advance k).eomPrefix = s.eomPrefix := rfl
@[simp] theorem State.advance_nmiPending (k : Nat) : (s.advance k).nmiPending = s.nmiPending := rfl
@[simp] theorem State.advance_mapState (k : Nat) : (s.advance k).mapState = s.mapState := rfl
@[simp] theorem State.advance_mem (k : Nat) : (s.advance k).mem = s.mem := rfl
@[simp] theorem State.advance_inputs (k : Nat) : (s.advance k).inputs = s.inputs := rfl
@[simp] theorem State.advance_params (k : Nat) : (s.advance k).params = s.params := rfl
@[simp] theorem State.advance_draws (k : Nat) : (s.advance k).draws = s.draws := rfl

/-! #### flatWrite -/

@[simp] theorem State.flatWrite_a (f : FlatAddr) (v : Byte) : (s.flatWrite f v).a = s.a := rfl
@[simp] theorem State.flatWrite_x (f : FlatAddr) (v : Byte) : (s.flatWrite f v).x = s.x := rfl
@[simp] theorem State.flatWrite_y (f : FlatAddr) (v : Byte) : (s.flatWrite f v).y = s.y := rfl
@[simp] theorem State.flatWrite_z (f : FlatAddr) (v : Byte) : (s.flatWrite f v).z = s.z := rfl
@[simp] theorem State.flatWrite_b (f : FlatAddr) (v : Byte) : (s.flatWrite f v).b = s.b := rfl
@[simp] theorem State.flatWrite_sph (f : FlatAddr) (v : Byte) : (s.flatWrite f v).sph = s.sph := rfl
@[simp] theorem State.flatWrite_spl (f : FlatAddr) (v : Byte) : (s.flatWrite f v).spl = s.spl := rfl
@[simp] theorem State.flatWrite_pc (f : FlatAddr) (v : Byte) : (s.flatWrite f v).pc = s.pc := rfl
@[simp] theorem State.flatWrite_p (f : FlatAddr) (v : Byte) : (s.flatWrite f v).p = s.p := rfl
@[simp] theorem State.flatWrite_mapInhibit (f : FlatAddr) (v : Byte) : (s.flatWrite f v).mapInhibit = s.mapInhibit := rfl
@[simp] theorem State.flatWrite_eomPrefix (f : FlatAddr) (v : Byte) : (s.flatWrite f v).eomPrefix = s.eomPrefix := rfl
@[simp] theorem State.flatWrite_nmiPending (f : FlatAddr) (v : Byte) : (s.flatWrite f v).nmiPending = s.nmiPending := rfl
@[simp] theorem State.flatWrite_mapState (f : FlatAddr) (v : Byte) : (s.flatWrite f v).mapState = s.mapState := rfl
@[simp] theorem State.flatWrite_mem (f : FlatAddr) (v : Byte) : (s.flatWrite f v).mem = s.mem.write (s.cell f) v := rfl
@[simp] theorem State.flatWrite_inputs (f : FlatAddr) (v : Byte) : (s.flatWrite f v).inputs = s.inputs := rfl
@[simp] theorem State.flatWrite_params (f : FlatAddr) (v : Byte) : (s.flatWrite f v).params = s.params := rfl
@[simp] theorem State.flatWrite_draws (f : FlatAddr) (v : Byte) : (s.flatWrite f v).draws = s.draws := rfl

/-! #### writeByte -/

@[simp] theorem State.writeByte_a (w : Addr) (v : Byte) : (s.writeByte w v).a = s.a := rfl
@[simp] theorem State.writeByte_x (w : Addr) (v : Byte) : (s.writeByte w v).x = s.x := rfl
@[simp] theorem State.writeByte_y (w : Addr) (v : Byte) : (s.writeByte w v).y = s.y := rfl
@[simp] theorem State.writeByte_z (w : Addr) (v : Byte) : (s.writeByte w v).z = s.z := rfl
@[simp] theorem State.writeByte_b (w : Addr) (v : Byte) : (s.writeByte w v).b = s.b := rfl
@[simp] theorem State.writeByte_sph (w : Addr) (v : Byte) : (s.writeByte w v).sph = s.sph := rfl
@[simp] theorem State.writeByte_spl (w : Addr) (v : Byte) : (s.writeByte w v).spl = s.spl := rfl
@[simp] theorem State.writeByte_pc (w : Addr) (v : Byte) : (s.writeByte w v).pc = s.pc := rfl
@[simp] theorem State.writeByte_p (w : Addr) (v : Byte) : (s.writeByte w v).p = s.p := rfl
@[simp] theorem State.writeByte_mapInhibit (w : Addr) (v : Byte) : (s.writeByte w v).mapInhibit = s.mapInhibit := rfl
@[simp] theorem State.writeByte_eomPrefix (w : Addr) (v : Byte) : (s.writeByte w v).eomPrefix = s.eomPrefix := rfl
@[simp] theorem State.writeByte_nmiPending (w : Addr) (v : Byte) : (s.writeByte w v).nmiPending = s.nmiPending := rfl
@[simp] theorem State.writeByte_mapState (w : Addr) (v : Byte) : (s.writeByte w v).mapState = s.mapState := rfl
@[simp] theorem State.writeByte_mem (w : Addr) (v : Byte) : (s.writeByte w v).mem = s.mem.write (s.progCell .write w) v := rfl
@[simp] theorem State.writeByte_inputs (w : Addr) (v : Byte) : (s.writeByte w v).inputs = s.inputs := rfl
@[simp] theorem State.writeByte_params (w : Addr) (v : Byte) : (s.writeByte w v).params = s.params := rfl
@[simp] theorem State.writeByte_draws (w : Addr) (v : Byte) : (s.writeByte w v).draws = s.draws := rfl

end Sys2Proof.Machine
end

