-- ==== Sys2Proof/Laws/Ops.lean ====
section
/-! SUPPORT. What each shared operation over memory and the stack does, said once. -/
namespace Sys2Proof.Machine

/-! ### Locations -/

theorem State.cell_congr {s t : State} (h : t.params = s.params) (f : FlatAddr) : t.cell f = s.cell f := by
  simp [State.cell, h]

theorem State.progCell_congr {s t : State} (h : t.params = s.params) (hm : t.mapState = s.mapState)
    (kind : AccessKind) (a : Addr) : t.progCell kind a = s.progCell kind a := by
  simp [State.progCell, State.cell, h, hm]

theorem State.flatRead_eq (s : State) (f : FlatAddr) : s.flatRead f = s.mem.read (s.cell f) := rfl

theorem State.readByte_eq (s : State) (a : Addr) : s.readByte a = s.mem.read (s.progCell .read a) := rfl

theorem State.fetchByte_eq (s : State) (a : Addr) : s.fetchByte a = s.mem.read (s.progCell .fetch a) := rfl

/-- A read depends on the memory, the map and the parameters only. -/
theorem State.readByte_congr {s t : State} (hm : t.mem = s.mem) (hp : t.params = s.params)
    (hs : t.mapState = s.mapState) (a : Addr) : t.readByte a = s.readByte a := by
  simp [State.readByte_eq, hm, State.progCell_congr hp hs]

theorem State.readWord_congr {s t : State} (hm : t.mem = s.mem) (hp : t.params = s.params)
    (hs : t.mapState = s.mapState) (a : Addr) : t.readWord a = s.readWord a := by
  simp [State.readWord, State.readByte_congr hm hp hs]

/-- A location of the flat space lies in the flat space. -/
theorem State.cell_lt (s : State) (f : FlatAddr) : s.cell f < 2 ^ s.params.flatAddrBits :=
  Nat.mod_lt _ (Nat.two_pow_pos _)

/-! ### Byte accesses -/

/-- What a program address reads as after a byte write at a program address. -/
theorem State.readByte_writeByte (s : State) (w r : Addr) (v : Byte) :
    (s.writeByte w v).readByte r = if s.progCell .write w = s.progCell .read r then v else s.readByte r := by
  exact Memory.read_write s.mem (s.progCell .write w) (s.progCell .read r) v

/-- What a flat address reads as after a byte write at a flat address. -/
theorem State.flatRead_flatWrite (s : State) (w r : FlatAddr) (v : Byte) :
    (s.flatWrite w v).flatRead r = if s.cell w = s.cell r then v else s.flatRead r := by
  exact Memory.read_write s.mem (s.cell w) (s.cell r) v

/-! ### Lists of writes -/

@[simp] theorem readOver_nil (m : Memory) (k : Nat) : readOver m [] k = m.read k := rfl

theorem readOver_append (m : Memory) (ws : List (Nat × Byte)) (w : Nat × Byte) (k : Nat) :
    readOver m (ws ++ [w]) k = if w.1 = k then w.2 else readOver m ws k := by
  simp [readOver, List.foldl_append]

/-- A state with the same memory has written nothing. -/
theorem State.wroteOnly_nil {s t : State} (h : t.mem = s.mem) : s.wroteOnly t [] := fun k => by simp [h]

/-- A location written after a list of writes is one write more. -/
theorem State.wroteOnly_write {s t : State} {ws : List (Nat × Byte)} (h : s.wroteOnly t ws) (k : Nat) (v : Byte)
    {u : State} (hu : u.mem = t.mem.write k v) : s.wroteOnly u (ws ++ [(k, v)]) := fun j => by
  rw [hu, Memory.read_write, readOver_append, h j]

/-- One byte write. -/
theorem State.wroteOnly_one {s t : State} (k : Nat) (v : Byte) (h : t.mem = s.mem.write k v) :
    s.wroteOnly t [(k, v)] :=
  State.wroteOnly_write (State.wroteOnly_nil rfl) k v h

/-! ### The stack pointer (R65) -/

/-- `SpAdd` with `P.E` 1: the high byte stays. -/
theorem State.spAdd_of_e {s : State} (h : s.p.e = true) (k : Addr) : s.spAdd k = { s with spl := s.spl + loByte k } := by
  simp [State.spAdd, h, State.setSpl]

/-- `SpAdd` with `P.E` 0: a 16-bit sum. -/
theorem State.spAdd_of_not_e {s : State} (h : s.p.e = false) (k : Addr) :
    s.spAdd k = { s with sph := hiByte (s.sp + k), spl := loByte (s.sp + k) } := by
  simp [State.spAdd, h, State.setSpl, State.setSph]

/-- `SpAdd` changes the two bytes of the stack pointer and nothing else. -/
theorem State.spAdd_frame (s : State) (k : Addr) :
    s.spAdd k = { s with sph := (s.spAdd k).sph, spl := (s.spAdd k).spl } := by
  unfold State.spAdd
  split <;> rfl

@[simp] theorem State.spAdd_a (s : State) (k : Addr) : (s.spAdd k).a = s.a := by rw [State.spAdd_frame]
@[simp] theorem State.spAdd_x (s : State) (k : Addr) : (s.spAdd k).x = s.x := by rw [State.spAdd_frame]
@[simp] theorem State.spAdd_y (s : State) (k : Addr) : (s.spAdd k).y = s.y := by rw [State.spAdd_frame]
@[simp] theorem State.spAdd_z (s : State) (k : Addr) : (s.spAdd k).z = s.z := by rw [State.spAdd_frame]
@[simp] theorem State.spAdd_b (s : State) (k : Addr) : (s.spAdd k).b = s.b := by rw [State.spAdd_frame]
@[simp] theorem State.spAdd_pc (s : State) (k : Addr) : (s.spAdd k).pc = s.pc := by rw [State.spAdd_frame]
@[simp] theorem State.spAdd_p (s : State) (k : Addr) : (s.spAdd k).p = s.p := by rw [State.spAdd_frame]
@[simp] theorem State.spAdd_mapInhibit (s : State) (k : Addr) : (s.spAdd k).mapInhibit = s.mapInhibit := by
  rw [State.spAdd_frame]
@[simp] theorem State.spAdd_eomPrefix (s : State) (k : Addr) : (s.spAdd k).eomPrefix = s.eomPrefix := by
  rw [State.spAdd_frame]
@[simp] theorem State.spAdd_nmiPending (s : State) (k : Addr) : (s.spAdd k).nmiPending = s.nmiPending := by
  rw [State.spAdd_frame]
@[simp] theorem State.spAdd_mapState (s : State) (k : Addr) : (s.spAdd k).mapState = s.mapState := by
  rw [State.spAdd_frame]
@[simp] theorem State.spAdd_mem (s : State) (k : Addr) : (s.spAdd k).mem = s.mem := by rw [State.spAdd_frame]
@[simp] theorem State.spAdd_inputs (s : State) (k : Addr) : (s.spAdd k).inputs = s.inputs := by rw [State.spAdd_frame]
@[simp] theorem State.spAdd_params (s : State) (k : Addr) : (s.spAdd k).params = s.params := by rw [State.spAdd_frame]
@[simp] theorem State.spAdd_draws (s : State) (k : Addr) : (s.spAdd k).draws = s.draws := by rw [State.spAdd_frame]

/-- The stack address after `SpAdd` (R65). -/
theorem State.spAdd_sp (s : State) (k : Addr) :
    (s.spAdd k).sp = if s.p.e then wordOf s.sph (s.spl + loByte k) else s.sp + k := by
  by_cases h : s.p.e
  · simp [State.spAdd_of_e h, State.sp, h]
  · simp [State.spAdd_of_not_e (by simpa using h), State.sp, h]

/-- Moving the stack pointer up by one after moving it down by one brings it back. -/
theorem State.spAdd_neg_one_one (s : State) : (s.spAdd (-1)).spAdd 1 = s := by
  by_cases h : s.p.e = true
  · rw [State.spAdd_of_e h, State.spAdd_of_e (by simpa using h)]
    have hl : s.spl + loByte (-1) + loByte 1 = s.spl := by
      rw [show loByte (-1) = (0xFF : Byte) from rfl, show loByte 1 = (1 : Byte) from rfl, BitVec.add_assoc,
        show (0xFF : Byte) + 1 = 0 from rfl]
      exact BitVec.add_zero _
    simp only [hl]
  · have h' : s.p.e = false := by simpa using h
    rw [State.spAdd_of_not_e h', State.spAdd_of_not_e (by simpa using h')]
    have hs : s.sp + -1 + 1 = s.sp := by
      rw [BitVec.add_assoc, show (-1 : Addr) + 1 = 0 from rfl]
      exact BitVec.add_zero _
    simp only [State.sp, wordOf_hiByte_loByte] at hs ⊢
    simp only [hs, hiByte_wordOf, loByte_wordOf]

/-! ### Push and pull (R66, R67) -/

/-- A push writes the byte at `SP` and moves `SP` down by one, and does nothing else. -/
theorem State.push8_eq (s : State) (v : Byte) :
    s.push8 v = { s.spAdd (-1) with mem := s.mem.write (s.progCell .write s.sp) v } := by
  unfold State.push8
  by_cases h : s.p.e = true
  · rw [State.spAdd_of_e h, State.spAdd_of_e (by simpa using h)]; rfl
  · have h' : s.p.e = false := by simpa using h
    rw [State.spAdd_of_not_e h', State.spAdd_of_not_e (by simpa using h')]; rfl

/-- Pushing one byte writes one byte. -/
theorem State.push8_wroteOnly (s : State) (v : Byte) : s.wroteOnly (s.push8 v) [(s.progCell .write s.sp, v)] :=
  State.wroteOnly_one _ _ (by simp [State.push8])

/-! ### Traps (R508) -/

/-- The entry pushes the address and the flag byte, sets `P.I`, clears `eom_prefix` and loads the program counter;
it does nothing else. -/
theorem State.entry_eq (s : State) (ra : Addr) (brk : Bool) (vector : Addr) :
    s.entry ra brk vector =
      { (s.pushWord ra).push8 (s.p.pbyte brk) with
        p := { s.p with i := true }, eomPrefix := false
        pc := ((s.pushWord ra).push8 (s.p.pbyte brk)).readWord vector } := by
  have hp : ((s.pushWord ra).push8 (s.p.pbyte brk)).p = s.p := by simp [State.pushWord, State.push8]
  have hr : ∀ t : State, (((t.setFlags { t.p with i := true }).setEomPrefix false).readWord vector)
      = t.readWord vector := fun t => State.readWord_congr rfl rfl rfl vector
  simp only [State.entry]
  rw [hr, hp]
  rfl

/-- The return pulls the flag byte and the address, and does nothing else (R441). -/
theorem State.entryReturn_eq (s : State) :
    s.entryReturn =
      { s.pulled.pulledWord with p := s.p.setP s.pullByte, pc := s.pulled.pullWord } := by
  have he : (s.p.setP s.pullByte).e = s.pulled.p.e := by simp [State.pulled, PFlags.setP]
  unfold State.entryReturn State.pulledWord State.pullWord State.pullByte State.pulled
  by_cases h : s.p.e = true
  · simp [State.spAdd, h, PFlags.setP, State.setFlags, State.setPc, State.setSpl, State.sp, State.readByte,
      State.flatRead, State.cell]
  · simp [State.spAdd, h, PFlags.setP, State.setFlags, State.setPc, State.setSpl, State.setSph, State.sp,
      State.readByte, State.flatRead, State.cell]

end Sys2Proof.Machine
end

