-- ==== Sys2Proof/Laws/Operands.lean ====
section
/-! SUPPORT. What loading from and storing to an operand does, said once. -/
namespace Sys2Proof.Machine

/-- A store changes the one location it stores to, and nothing else of the state. -/
theorem Place.store_eq (s : State) (v : Byte) (pl : Place) :
    pl.store s v = { s with mem := s.mem.write (pl.storeCell s) v } := by
  cases pl <;> rfl

/-- A store writes one byte. -/
theorem Place.store_wroteOnly (s : State) (v : Byte) (pl : Place) :
    s.wroteOnly (pl.store s v) [(pl.storeCell s, v)] :=
  State.wroteOnly_one _ _ (by rw [Place.store_eq])

/-- A memory operand is stored at the place it is loaded from (R163). -/
theorem MemForm.store_eq (s : State) (v : Byte) (m : MemForm) :
    m.store s v = { s with mem := s.mem.write ((m.place s).storeCell s) v } := Place.store_eq s v _

/-- The load of a place reads the memory at one location. -/
theorem Place.load_prog (s : State) (a : Addr) : (Place.prog a).load s = s.mem.read (s.progCell .read a) := rfl

theorem Place.load_flat (s : State) (f : FlatAddr) : (Place.flat f).load s = s.mem.read (s.cell f) := rfl

/-- Storing to the accumulator changes the accumulator (R143). -/
@[simp] theorem Target.store_acc (s : State) (v : Byte) : Target.acc.store s v = s.setA v := rfl

@[simp] theorem Target.load_acc (s : State) : Target.acc.load s = s.a := rfl

@[simp] theorem Target.store_mem (s : State) (v : Byte) (m : MemForm) :
    (Target.mem m).store s v = { s with mem := s.mem.write ((m.place s).storeCell s) v } := MemForm.store_eq s v m

@[simp] theorem Target.load_mem (s : State) (m : MemForm) : (Target.mem m).load s = (m.place s).load s := rfl

@[simp] theorem Source.load_imm (s : State) (nn : Byte) : (Source.imm nn).load s = nn := rfl

@[simp] theorem Source.load_mem (s : State) (m : MemForm) : (Source.mem m).load s = (m.place s).load s := rfl

/-- The base-page address of a byte, as a number (R142). -/
theorem State.bpAddr_toNat (s : State) (d : Byte) : (s.bpAddr d).toNat = s.b.toNat * 256 + d.toNat :=
  wordOf_toNat _ _

/-- A byte of the base page lies in the page that `B` names (R142). -/
theorem State.hiByte_bpAddr (s : State) (d : Byte) : hiByte (s.bpAddr d) = s.b := hiByte_wordOf _ _

end Sys2Proof.Machine
end

