-- ==== Sys2Proof/Laws/Families.lean ====
section
/-! SUPPORT. What each shared operation of the instruction families does, said once: the next state, field by
field. -/
namespace Sys2Proof.Machine

/-! ### Load, store -/

theorem ldaFrom_eq (src : Source) (s : State) :
    ldaFrom src s =
      { s with a := src.load s, p := s.p.setNZ (src.load s), pc := s.pc + BitVec.ofNat 16 src.length } := rfl

theorem ldxFrom_eq (src : Source) (s : State) :
    ldxFrom src s =
      { s with x := src.load s, p := s.p.setNZ (src.load s), pc := s.pc + BitVec.ofNat 16 src.length } := rfl

theorem ldyFrom_eq (src : Source) (s : State) :
    ldyFrom src s =
      { s with y := src.load s, p := s.p.setNZ (src.load s), pc := s.pc + BitVec.ofNat 16 src.length } := rfl

theorem ldzFrom_eq (src : Source) (s : State) :
    ldzFrom src s =
      { s with z := src.load s, p := s.p.setNZ (src.load s), pc := s.pc + BitVec.ofNat 16 src.length } := rfl

theorem storeTo_eq (m : MemForm) (v : Byte) (s : State) :
    storeTo m v s =
      { s with mem := s.mem.write ((m.place s).storeCell s) v, pc := s.pc + BitVec.ofNat 16 m.length } := by
  simp only [storeTo, MemForm.store_eq]; rfl

/-! ### Arithmetic and logic -/

theorem adcWith_eq (src : Source) (s : State) :
    adcWith src s =
      { s with
        a := (adcOutcome (src.load s) s).value, p := s.p.setAlu (adcOutcome (src.load s) s)
        draws := drawsAfter (src.load s) s, pc := s.pc + BitVec.ofNat 16 src.length } := rfl

theorem sbcWith_eq (src : Source) (s : State) :
    sbcWith src s =
      { s with
        a := (sbcOutcome (src.load s) s).value, p := s.p.setAlu (sbcOutcome (src.load s) s)
        draws := drawsAfter (src.load s) s, pc := s.pc + BitVec.ofNat 16 src.length } := rfl

theorem logicWith_eq (op : Byte → Byte → Byte) (src : Source) (s : State) :
    logicWith op src s =
      { s with
        a := op s.a (src.load s), p := s.p.setNZ (op s.a (src.load s))
        pc := s.pc + BitVec.ofNat 16 src.length } := rfl

theorem bitWith_eq (src : Source) (s : State) :
    bitWith src s = { s with p := s.p.setBit s.a (src.load s), pc := s.pc + BitVec.ofNat 16 src.length } := rfl

theorem compareWith_eq (r : Byte) (src : Source) (s : State) :
    compareWith r src s =
      { s with p := s.p.setCompare r (src.load s), pc := s.pc + BitVec.ofNat 16 src.length } := rfl

theorem modifyWith_acc (op : Byte → Byte) (s : State) :
    modifyWith op .acc s = { s with a := op s.a, p := s.p.setNZ (op s.a), pc := s.pc + 1 } := rfl

theorem modifyWith_mem (op : Byte → Byte) (m : MemForm) (s : State) :
    modifyWith op (.mem m) s =
      { s with
        mem := s.mem.write ((m.place s).storeCell s) (op (m.load s)), p := s.p.setNZ (op (m.load s))
        pc := s.pc + BitVec.ofNat 16 m.length } := by
  simp only [modifyWith, Target.store_mem]; rfl

theorem modifyBpWord_eq (op : Addr → Addr) (nn : Byte) (s : State) :
    modifyBpWord op nn s =
      { s with
        mem := (s.mem.write (s.progCell .write (s.bpAddr nn)) (loByte (op (s.bpWord nn)))).write
          (s.progCell .write (s.bpAddr (nn + 1))) (hiByte (op (s.bpWord nn)))
        p := s.p.setNZ16 (op (s.bpWord nn)), pc := s.pc + 2 } := rfl

/-! ### Shift and bit -/

theorem shiftWith_acc (op : Byte → Bool → Byte × Bool) (s : State) :
    shiftWith op .acc s =
      { s with
        a := (op s.a s.p.c).1, p := { s.p.setNZ (op s.a s.p.c).1 with c := (op s.a s.p.c).2 }
        pc := s.pc + 1 } := rfl

theorem shiftWith_mem (op : Byte → Bool → Byte × Bool) (m : MemForm) (s : State) :
    shiftWith op (.mem m) s =
      { s with
        mem := s.mem.write ((m.place s).storeCell s) (op (m.load s) s.p.c).1
        p := { s.p.setNZ (op (m.load s) s.p.c).1 with c := (op (m.load s) s.p.c).2 }
        pc := s.pc + BitVec.ofNat 16 m.length } := by
  simp only [shiftWith, Target.store_mem]; rfl

theorem shiftAbsWord_eq (op : Addr → Bool → Addr × Bool) (nnnn : Addr) (s : State) :
    shiftAbsWord op nnnn s =
      { s with
        mem := (s.mem.write (s.progCell .write nnnn) (loByte (op (s.readWord nnnn) s.p.c).1)).write
          (s.progCell .write (nnnn + 1)) (hiByte (op (s.readWord nnnn) s.p.c).1)
        p := { s.p.setNZ16 (op (s.readWord nnnn) s.p.c).1 with c := (op (s.readWord nnnn) s.p.c).2 }
        pc := s.pc + 3 } := rfl

theorem modifyBpByte_eq (op : Byte → Byte) (nn : Byte) (s : State) :
    modifyBpByte op nn s =
      { s with
        mem := s.mem.write (s.progCell .write (s.bpAddr nn)) (op (s.readByte (s.bpAddr nn)))
        pc := s.pc + 2 } := rfl

theorem testAndModify_eq (op : Byte → Byte → Byte) (m : MemForm) (s : State) :
    testAndModify op m s =
      { s with
        mem := s.mem.write ((m.place s).storeCell s) (op s.a (m.load s))
        p := { s.p with z := s.a &&& m.load s == 0 }, pc := s.pc + BitVec.ofNat 16 m.length } := by
  simp only [testAndModify, MemForm.store_eq]; rfl

/-! ### Branch, call, return -/

theorem branchRel_eq (cond : Bool) (rr : Byte) (s : State) :
    branchRel cond rr s = { s with pc := if cond then relTarget s.pc rr else s.pc + 2 } := by
  cases cond <;> rfl

theorem branchRelw_eq (cond : Bool) (rrrr : Addr) (s : State) :
    branchRelw cond rrrr s = { s with pc := if cond then relwTarget s.params s.pc rrrr else s.pc + 3 } := by
  cases cond <;> rfl

theorem branchOnBit_eq (n : Nat) (taken : Bool) (nn rr : Byte) (s : State) :
    branchOnBit n taken nn rr s =
      { s with
        pc := if (s.readByte (s.bpAddr nn)).getLsbD n = taken then bprelTarget s.pc rr else s.pc + 3 } := by
  unfold branchOnBit
  split <;> rfl

/-- A call pushes one word and jumps. -/
theorem callTo_eq (target : Addr) (s : State) :
    callTo target s = { s.pushWord (s.pc + 2) with pc := target } := rfl

/-- A return moves the stack pointer up by two and jumps. -/
theorem returnFrom_eq (s : State) : returnFrom s = { s.pulledWord with pc := s.pullWord + 1 } := rfl

theorem returnAdjusting_eq (nn : Byte) (s : State) :
    returnAdjusting nn s =
      if s.params.rtsImmAdjustFirst then returnFrom (s.spAdd (zext16 nn))
      else (returnFrom s).spAdd (zext16 nn) := rfl

end Sys2Proof.Machine
end

