-- ==== Sys2Proof/Laws/Stack.lean ====
section
/-! SUPPORT. The stack: two moves of the stack pointer are one, and what a pushed word and an entry write. -/
namespace Sys2Proof.Machine

theorem loByte_add (j k : Addr) : loByte (j + k) = loByte j + loByte k := by
  apply BitVec.eq_of_toNat_eq
  simp only [loByte_toNat, BitVec.toNat_add]
  omega

/-- Two moves of the stack pointer are one (R65). -/
theorem State.spAdd_spAdd (s : State) (j k : Addr) : (s.spAdd j).spAdd k = s.spAdd (j + k) := by
  by_cases h : s.p.e = true
  · rw [State.spAdd_of_e h, State.spAdd_of_e h, State.spAdd_of_e (by simpa using h), loByte_add, BitVec.add_assoc]
  · have h' : s.p.e = false := by simpa using h
    rw [State.spAdd_of_not_e h', State.spAdd_of_not_e h', State.spAdd_of_not_e (by simpa using h')]
    simp only [State.sp, wordOf_hiByte_loByte, BitVec.add_assoc]

/-- A move of the stack pointer does not look at the memory. -/
theorem State.spAdd_withMem (s : State) (m : Memory) (k : Addr) :
    ({ s with mem := m } : State).spAdd k = { s.spAdd k with mem := m } := by
  unfold State.spAdd
  split <;> rfl

theorem State.pulled_eq (s : State) : s.pulled = s.spAdd 1 := rfl

theorem State.pulledWord_eq (s : State) : s.pulledWord = s.spAdd 2 := by
  rw [State.pulledWord, State.pulled, State.pulled, State.spAdd_spAdd]; rfl

/-- A pushed word is two byte writes, and the stack pointer moves down by two (R68). -/
theorem State.pushWord_eq (s : State) (w : Addr) :
    s.pushWord w =
      { s.spAdd (-2) with
        mem := (s.mem.write (s.progCell .write s.sp) (hiByte w)).write
          (s.progCell .write (s.spAdd (-1)).sp) (loByte w) } := by
  have hsp : (s.push8 (hiByte w)).sp = (s.spAdd (-1)).sp := by rw [State.push8_eq]; rfl
  rw [State.pushWord, State.push8_eq, hsp, State.progCell_congr (s := s) (by simp [State.push8]) (by simp [State.push8])]
  have h2 : (s.push8 (hiByte w)).spAdd (-1) =
      { s.spAdd (-2) with mem := s.mem.write (s.progCell .write s.sp) (hiByte w) } := by
    rw [State.push8_eq, State.spAdd_withMem, State.spAdd_spAdd]; rfl
  rw [h2, State.push8_eq]

/-- An entry writes three bytes, and the stack pointer moves down by three (R508). -/
theorem State.entry_pushes (s : State) (ra : Addr) (brk : Bool) :
    (s.pushWord ra).push8 (s.p.pbyte brk) =
      { s.spAdd (-3) with
        mem := ((s.mem.write (s.progCell .write s.sp) (hiByte ra)).write
          (s.progCell .write (s.spAdd (-1)).sp) (loByte ra)).write
          (s.progCell .write (s.spAdd (-2)).sp) (s.p.pbyte brk) } := by
  rw [State.push8_eq, State.pushWord_eq, State.spAdd_withMem, State.spAdd_spAdd]
  have hs : ∀ m : Memory, ({ s.spAdd (-2) with mem := m } : State).progCell .write
      ({ s.spAdd (-2) with mem := m } : State).sp = s.progCell .write (s.spAdd (-2)).sp := fun m => by
    rw [State.progCell_congr (s := s) (by simp) (by simp)]; rfl
  simp only [hs]
  rfl

end Sys2Proof.Machine
end

