-- ==== Sys2Proof/Laws/Invariant.lean ====
section
/-! SUPPORT. The invariant of every state under the operations that every meaning is written with. -/
namespace Sys2Proof.Machine

/-- The invariant is about the memory and the parameters only. -/
theorem State.inv_congr {s t : State} (hm : t.mem = s.mem) (hp : t.params = s.params) : t.inv = s.inv := by
  simp [State.inv, State.memInSpace, hm, hp]

/-- A write at a location of the flat address space keeps the invariant. -/
theorem State.inv_of_write {s t : State} (h : s.inv = true) (k : Nat) (v : Byte)
    (hk : k < 2 ^ s.params.flatAddrBits) (hm : t.mem = s.mem.write k v) (hp : t.params = s.params) :
    t.inv = true := by
  simp only [State.inv, Bool.and_eq_true, State.memInSpace, List.all_eq_true, decide_eq_true_eq] at h ⊢
  obtain ⟨⟨hwf, hin⟩, hpar⟩ := h
  rw [hm, hp]
  refine ⟨⟨Memory.wf_write _ _ _ hwf, fun d hd => ?_⟩, hpar⟩
  rcases Memory.mem_write hd with rfl | hd
  · exact hk
  · exact hin d hd

theorem State.inv_flatWrite {s : State} (h : s.inv = true) (f : FlatAddr) (v : Byte) : (s.flatWrite f v).inv = true :=
  State.inv_of_write h (s.cell f) v (s.cell_lt f) rfl rfl

theorem State.inv_writeByte {s : State} (h : s.inv = true) (a : Addr) (v : Byte) : (s.writeByte a v).inv = true :=
  State.inv_flatWrite h _ v

theorem State.inv_spAdd (s : State) (k : Addr) : (s.spAdd k).inv = s.inv := State.inv_congr (by simp) (by simp)

theorem State.inv_push8 {s : State} (h : s.inv = true) (v : Byte) : (s.push8 v).inv = true := by
  rw [State.push8, State.inv_spAdd]
  exact State.inv_writeByte h _ v

theorem State.inv_pushWord {s : State} (h : s.inv = true) (w : Addr) : (s.pushWord w).inv = true :=
  State.inv_push8 (State.inv_push8 h _) _

theorem State.inv_entry {s : State} (h : s.inv = true) (ra : Addr) (brk : Bool) (vector : Addr) :
    (s.entry ra brk vector).inv = true :=
  State.inv_push8 (State.inv_pushWord h ra) (s.p.pbyte brk)

theorem Place.inv_store {s : State} (h : s.inv = true) (v : Byte) (pl : Place) : (pl.store s v).inv = true := by
  cases pl
  · exact State.inv_writeByte h _ v
  · exact State.inv_flatWrite h _ v

theorem MemForm.inv_store {s : State} (h : s.inv = true) (v : Byte) (m : MemForm) : (m.store s v).inv = true :=
  Place.inv_store h v _

theorem Target.inv_store {s : State} (h : s.inv = true) (v : Byte) (t : Target) : (t.store s v).inv = true := by
  cases t
  · exact h
  · exact MemForm.inv_store h v _

end Sys2Proof.Machine
end

