-- ==== Sys2Proof/Laws/PerInstr.lean ====
section
/-! SUPPORT. A statement made of every instruction, proved constructor by constructor: an instruction's bytes are as
many as its first byte asks for (`30_encoding.md` rules R100, R103). -/
namespace Sys2Proof.Laws.EncodingShape

open Sys2Proof

/-- The encoding of `i` is its opcode and its operand bytes, as many as the opcode asks for: 1, 2 or 3 in all. -/
def Statement (i : Instr) : Prop :=
  (encode i).head? = some i.opcode ∧ (encode i).length = lengthOfOpcode i.opcode ∧ lengthOfOpcode i.opcode ≤ 3

theorem adcAbs (nnnn : Addr) : Statement (.adcAbs nnnn) := ⟨rfl, rfl, Nat.le_of_ble_eq_true rfl⟩
theorem adcAbsx (nnnn : Addr) : Statement (.adcAbsx nnnn) := ⟨rfl, rfl, Nat.le_of_ble_eq_true rfl⟩
theorem adcAbsy (nnnn : Addr) : Statement (.adcAbsy nnnn) := ⟨rfl, rfl, Nat.le_of_ble_eq_true rfl⟩
theorem adcBp (nn : Byte) : Statement (.adcBp nn) := ⟨rfl, rfl, Nat.le_of_ble_eq_true rfl⟩
theorem adcBpx (nn : Byte) : Statement (.adcBpx nn) := ⟨rfl, rfl, Nat.le_of_ble_eq_true rfl⟩
theorem adcImm (nn : Byte) : Statement (.adcImm nn) := ⟨rfl, rfl, Nat.le_of_ble_eq_true rfl⟩
theorem adcIndx (nn : Byte) : Statement (.adcIndx nn) := ⟨rfl, rfl, Nat.le_of_ble_eq_true rfl⟩
theorem adcIndy (nn : Byte) : Statement (.adcIndy nn) := ⟨rfl, rfl, Nat.le_of_ble_eq_true rfl⟩
theorem adcIndz (nn : Byte) : Statement (.adcIndz nn) := ⟨rfl, rfl, Nat.le_of_ble_eq_true rfl⟩
theorem andAbs (nnnn : Addr) : Statement (.andAbs nnnn) := ⟨rfl, rfl, Nat.le_of_ble_eq_true rfl⟩
theorem andAbsx (nnnn : Addr) : Statement (.andAbsx nnnn) := ⟨rfl, rfl, Nat.le_of_ble_eq_true rfl⟩
theorem andAbsy (nnnn : Addr) : Statement (.andAbsy nnnn) := ⟨rfl, rfl, Nat.le_of_ble_eq_true rfl⟩
theorem andBp (nn : Byte) : Statement (.andBp nn) := ⟨rfl, rfl, Nat.le_of_ble_eq_true rfl⟩
theorem andBpx (nn : Byte) : Statement (.andBpx nn) := ⟨rfl, rfl, Nat.le_of_ble_eq_true rfl⟩
theorem andImm (nn : Byte) : Statement (.andImm nn) := ⟨rfl, rfl, Nat.le_of_ble_eq_true rfl⟩
theorem andIndx (nn : Byte) : Statement (.andIndx nn) := ⟨rfl, rfl, Nat.le_of_ble_eq_true rfl⟩
theorem andIndy (nn : Byte) : Statement (.andIndy nn) := ⟨rfl, rfl, Nat.le_of_ble_eq_true rfl⟩
theorem andIndz (nn : Byte) : Statement (.andIndz nn) := ⟨rfl, rfl, Nat.le_of_ble_eq_true rfl⟩
theorem aslAbs (nnnn : Addr) : Statement (.aslAbs nnnn) := ⟨rfl, rfl, Nat.le_of_ble_eq_true rfl⟩
theorem aslAbsx (nnnn : Addr) : Statement (.aslAbsx nnnn) := ⟨rfl, rfl, Nat.le_of_ble_eq_true rfl⟩
theorem aslAcc : Statement (.aslAcc) := ⟨rfl, rfl, Nat.le_of_ble_eq_true rfl⟩
theorem aslBp (nn : Byte) : Statement (.aslBp nn) := ⟨rfl, rfl, Nat.le_of_ble_eq_true rfl⟩
theorem aslBpx (nn : Byte) : Statement (.aslBpx nn) := ⟨rfl, rfl, Nat.le_of_ble_eq_true rfl⟩
theorem asrAcc : Statement (.asrAcc) := ⟨rfl, rfl, Nat.le_of_ble_eq_true rfl⟩
theorem asrBp (nn : Byte) : Statement (.asrBp nn) := ⟨rfl, rfl, Nat.le_of_ble_eq_true rfl⟩
theorem asrBpx (nn : Byte) : Statement (.asrBpx nn) := ⟨rfl, rfl, Nat.le_of_ble_eq_true rfl⟩
theorem asw (nnnn : Addr) : Statement (.asw nnnn) := ⟨rfl, rfl, Nat.le_of_ble_eq_true rfl⟩
theorem bbr0 (nn : Byte) (rr : Byte) : Statement (.bbr0 nn rr) := ⟨rfl, rfl, Nat.le_of_ble_eq_true rfl⟩
theorem bbr1 (nn : Byte) (rr : Byte) : Statement (.bbr1 nn rr) := ⟨rfl, rfl, Nat.le_of_ble_eq_true rfl⟩
theorem bbr2 (nn : Byte) (rr : Byte) : Statement (.bbr2 nn rr) := ⟨rfl, rfl, Nat.le_of_ble_eq_true rfl⟩
theorem bbr3 (nn : Byte) (rr : Byte) : Statement (.bbr3 nn rr) := ⟨rfl, rfl, Nat.le_of_ble_eq_true rfl⟩
theorem bbr4 (nn : Byte) (rr : Byte) : Statement (.bbr4 nn rr) := ⟨rfl, rfl, Nat.le_of_ble_eq_true rfl⟩
theorem bbr5 (nn : Byte) (rr : Byte) : Statement (.bbr5 nn rr) := ⟨rfl, rfl, Nat.le_of_ble_eq_true rfl⟩
theorem bbr6 (nn : Byte) (rr : Byte) : Statement (.bbr6 nn rr) := ⟨rfl, rfl, Nat.le_of_ble_eq_true rfl⟩
theorem bbr7 (nn : Byte) (rr : Byte) : Statement (.bbr7 nn rr) := ⟨rfl, rfl, Nat.le_of_ble_eq_true rfl⟩
theorem bbs0 (nn : Byte) (rr : Byte) : Statement (.bbs0 nn rr) := ⟨rfl, rfl, Nat.le_of_ble_eq_true rfl⟩
theorem bbs1 (nn : Byte) (rr : Byte) : Statement (.bbs1 nn rr) := ⟨rfl, rfl, Nat.le_of_ble_eq_true rfl⟩
theorem bbs2 (nn : Byte) (rr : Byte) : Statement (.bbs2 nn rr) := ⟨rfl, rfl, Nat.le_of_ble_eq_true rfl⟩
theorem bbs3 (nn : Byte) (rr : Byte) : Statement (.bbs3 nn rr) := ⟨rfl, rfl, Nat.le_of_ble_eq_true rfl⟩
theorem bbs4 (nn : Byte) (rr : Byte) : Statement (.bbs4 nn rr) := ⟨rfl, rfl, Nat.le_of_ble_eq_true rfl⟩
theorem bbs5 (nn : Byte) (rr : Byte) : Statement (.bbs5 nn rr) := ⟨rfl, rfl, Nat.le_of_ble_eq_true rfl⟩
theorem bbs6 (nn : Byte) (rr : Byte) : Statement (.bbs6 nn rr) := ⟨rfl, rfl, Nat.le_of_ble_eq_true rfl⟩
theorem bbs7 (nn : Byte) (rr : Byte) : Statement (.bbs7 nn rr) := ⟨rfl, rfl, Nat.le_of_ble_eq_true rfl⟩
theorem bccRel (rr : Byte) : Statement (.bccRel rr) := ⟨rfl, rfl, Nat.le_of_ble_eq_true rfl⟩
theorem bccRelw (rrrr : Addr) : Statement (.bccRelw rrrr) := ⟨rfl, rfl, Nat.le_of_ble_eq_true rfl⟩
theorem bcsRel (rr : Byte) : Statement (.bcsRel rr) := ⟨rfl, rfl, Nat.le_of_ble_eq_true rfl⟩
theorem bcsRelw (rrrr : Addr) : Statement (.bcsRelw rrrr) := ⟨rfl, rfl, Nat.le_of_ble_eq_true rfl⟩
theorem beqRel (rr : Byte) : Statement (.beqRel rr) := ⟨rfl, rfl, Nat.le_of_ble_eq_true rfl⟩
theorem beqRelw (rrrr : Addr) : Statement (.beqRelw rrrr) := ⟨rfl, rfl, Nat.le_of_ble_eq_true rfl⟩
theorem bitAbs (nnnn : Addr) : Statement (.bitAbs nnnn) := ⟨rfl, rfl, Nat.le_of_ble_eq_true rfl⟩
theorem bitAbsx (nnnn : Addr) : Statement (.bitAbsx nnnn) := ⟨rfl, rfl, Nat.le_of_ble_eq_true rfl⟩
theorem bitBp (nn : Byte) : Statement (.bitBp nn) := ⟨rfl, rfl, Nat.le_of_ble_eq_true rfl⟩
theorem bitBpx (nn : Byte) : Statement (.bitBpx nn) := ⟨rfl, rfl, Nat.le_of_ble_eq_true rfl⟩
theorem bitImm (nn : Byte) : Statement (.bitImm nn) := ⟨rfl, rfl, Nat.le_of_ble_eq_true rfl⟩
theorem bmiRel (rr : Byte) : Statement (.bmiRel rr) := ⟨rfl, rfl, Nat.le_of_ble_eq_true rfl⟩
theorem bmiRelw (rrrr : Addr) : Statement (.bmiRelw rrrr) := ⟨rfl, rfl, Nat.le_of_ble_eq_true rfl⟩
theorem bneRel (rr : Byte) : Statement (.bneRel rr) := ⟨rfl, rfl, Nat.le_of_ble_eq_true rfl⟩
theorem bneRelw (rrrr : Addr) : Statement (.bneRelw rrrr) := ⟨rfl, rfl, Nat.le_of_ble_eq_true rfl⟩
theorem bplRel (rr : Byte) : Statement (.bplRel rr) := ⟨rfl, rfl, Nat.le_of_ble_eq_true rfl⟩
theorem bplRelw (rrrr : Addr) : Statement (.bplRelw rrrr) := ⟨rfl, rfl, Nat.le_of_ble_eq_true rfl⟩
theorem braRel (rr : Byte) : Statement (.braRel rr) := ⟨rfl, rfl, Nat.le_of_ble_eq_true rfl⟩
theorem braRelw (rrrr : Addr) : Statement (.braRelw rrrr) := ⟨rfl, rfl, Nat.le_of_ble_eq_true rfl⟩
theorem brk : Statement (.brk) := ⟨rfl, rfl, Nat.le_of_ble_eq_true rfl⟩
theorem bsr (rrrr : Addr) : Statement (.bsr rrrr) := ⟨rfl, rfl, Nat.le_of_ble_eq_true rfl⟩
theorem bvcRel (rr : Byte) : Statement (.bvcRel rr) := ⟨rfl, rfl, Nat.le_of_ble_eq_true rfl⟩
theorem bvcRelw (rrrr : Addr) : Statement (.bvcRelw rrrr) := ⟨rfl, rfl, Nat.le_of_ble_eq_true rfl⟩
theorem bvsRel (rr : Byte) : Statement (.bvsRel rr) := ⟨rfl, rfl, Nat.le_of_ble_eq_true rfl⟩
theorem bvsRelw (rrrr : Addr) : Statement (.bvsRelw rrrr) := ⟨rfl, rfl, Nat.le_of_ble_eq_true rfl⟩
theorem clc : Statement (.clc) := ⟨rfl, rfl, Nat.le_of_ble_eq_true rfl⟩
theorem cld : Statement (.cld) := ⟨rfl, rfl, Nat.le_of_ble_eq_true rfl⟩
theorem cle : Statement (.cle) := ⟨rfl, rfl, Nat.le_of_ble_eq_true rfl⟩
theorem cli : Statement (.cli) := ⟨rfl, rfl, Nat.le_of_ble_eq_true rfl⟩
theorem clv : Statement (.clv) := ⟨rfl, rfl, Nat.le_of_ble_eq_true rfl⟩
theorem cmpAbs (nnnn : Addr) : Statement (.cmpAbs nnnn) := ⟨rfl, rfl, Nat.le_of_ble_eq_true rfl⟩
theorem cmpAbsx (nnnn : Addr) : Statement (.cmpAbsx nnnn) := ⟨rfl, rfl, Nat.le_of_ble_eq_true rfl⟩
theorem cmpAbsy (nnnn : Addr) : Statement (.cmpAbsy nnnn) := ⟨rfl, rfl, Nat.le_of_ble_eq_true rfl⟩
theorem cmpBp (nn : Byte) : Statement (.cmpBp nn) := ⟨rfl, rfl, Nat.le_of_ble_eq_true rfl⟩
theorem cmpBpx (nn : Byte) : Statement (.cmpBpx nn) := ⟨rfl, rfl, Nat.le_of_ble_eq_true rfl⟩
theorem cmpImm (nn : Byte) : Statement (.cmpImm nn) := ⟨rfl, rfl, Nat.le_of_ble_eq_true rfl⟩
theorem cmpIndx (nn : Byte) : Statement (.cmpIndx nn) := ⟨rfl, rfl, Nat.le_of_ble_eq_true rfl⟩
theorem cmpIndy (nn : Byte) : Statement (.cmpIndy nn) := ⟨rfl, rfl, Nat.le_of_ble_eq_true rfl⟩
theorem cmpIndz (nn : Byte) : Statement (.cmpIndz nn) := ⟨rfl, rfl, Nat.le_of_ble_eq_true rfl⟩
theorem cpxAbs (nnnn : Addr) : Statement (.cpxAbs nnnn) := ⟨rfl, rfl, Nat.le_of_ble_eq_true rfl⟩
theorem cpxBp (nn : Byte) : Statement (.cpxBp nn) := ⟨rfl, rfl, Nat.le_of_ble_eq_true rfl⟩
theorem cpxImm (nn : Byte) : Statement (.cpxImm nn) := ⟨rfl, rfl, Nat.le_of_ble_eq_true rfl⟩
theorem cpyAbs (nnnn : Addr) : Statement (.cpyAbs nnnn) := ⟨rfl, rfl, Nat.le_of_ble_eq_true rfl⟩
theorem cpyBp (nn : Byte) : Statement (.cpyBp nn) := ⟨rfl, rfl, Nat.le_of_ble_eq_true rfl⟩
theorem cpyImm (nn : Byte) : Statement (.cpyImm nn) := ⟨rfl, rfl, Nat.le_of_ble_eq_true rfl⟩
theorem cpzAbs (nnnn : Addr) : Statement (.cpzAbs nnnn) := ⟨rfl, rfl, Nat.le_of_ble_eq_true rfl⟩
theorem cpzBp (nn : Byte) : Statement (.cpzBp nn) := ⟨rfl, rfl, Nat.le_of_ble_eq_true rfl⟩
theorem cpzImm (nn : Byte) : Statement (.cpzImm nn) := ⟨rfl, rfl, Nat.le_of_ble_eq_true rfl⟩
theorem decAbs (nnnn : Addr) : Statement (.decAbs nnnn) := ⟨rfl, rfl, Nat.le_of_ble_eq_true rfl⟩
theorem decAbsx (nnnn : Addr) : Statement (.decAbsx nnnn) := ⟨rfl, rfl, Nat.le_of_ble_eq_true rfl⟩
theorem decAcc : Statement (.decAcc) := ⟨rfl, rfl, Nat.le_of_ble_eq_true rfl⟩
theorem decBp (nn : Byte) : Statement (.decBp nn) := ⟨rfl, rfl, Nat.le_of_ble_eq_true rfl⟩
theorem decBpx (nn : Byte) : Statement (.decBpx nn) := ⟨rfl, rfl, Nat.le_of_ble_eq_true rfl⟩
theorem dew (nn : Byte) : Statement (.dew nn) := ⟨rfl, rfl, Nat.le_of_ble_eq_true rfl⟩
theorem dex : Statement (.dex) := ⟨rfl, rfl, Nat.le_of_ble_eq_true rfl⟩
theorem dey : Statement (.dey) := ⟨rfl, rfl, Nat.le_of_ble_eq_true rfl⟩
theorem dez : Statement (.dez) := ⟨rfl, rfl, Nat.le_of_ble_eq_true rfl⟩
theorem eom : Statement (.eom) := ⟨rfl, rfl, Nat.le_of_ble_eq_true rfl⟩
theorem eorAbs (nnnn : Addr) : Statement (.eorAbs nnnn) := ⟨rfl, rfl, Nat.le_of_ble_eq_true rfl⟩
theorem eorAbsx (nnnn : Addr) : Statement (.eorAbsx nnnn) := ⟨rfl, rfl, Nat.le_of_ble_eq_true rfl⟩
theorem eorAbsy (nnnn : Addr) : Statement (.eorAbsy nnnn) := ⟨rfl, rfl, Nat.le_of_ble_eq_true rfl⟩
theorem eorBp (nn : Byte) : Statement (.eorBp nn) := ⟨rfl, rfl, Nat.le_of_ble_eq_true rfl⟩
theorem eorBpx (nn : Byte) : Statement (.eorBpx nn) := ⟨rfl, rfl, Nat.le_of_ble_eq_true rfl⟩
theorem eorImm (nn : Byte) : Statement (.eorImm nn) := ⟨rfl, rfl, Nat.le_of_ble_eq_true rfl⟩
theorem eorIndx (nn : Byte) : Statement (.eorIndx nn) := ⟨rfl, rfl, Nat.le_of_ble_eq_true rfl⟩
theorem eorIndy (nn : Byte) : Statement (.eorIndy nn) := ⟨rfl, rfl, Nat.le_of_ble_eq_true rfl⟩
theorem eorIndz (nn : Byte) : Statement (.eorIndz nn) := ⟨rfl, rfl, Nat.le_of_ble_eq_true rfl⟩
theorem incAbs (nnnn : Addr) : Statement (.incAbs nnnn) := ⟨rfl, rfl, Nat.le_of_ble_eq_true rfl⟩
theorem incAbsx (nnnn : Addr) : Statement (.incAbsx nnnn) := ⟨rfl, rfl, Nat.le_of_ble_eq_true rfl⟩
theorem incAcc : Statement (.incAcc) := ⟨rfl, rfl, Nat.le_of_ble_eq_true rfl⟩
theorem incBp (nn : Byte) : Statement (.incBp nn) := ⟨rfl, rfl, Nat.le_of_ble_eq_true rfl⟩
theorem incBpx (nn : Byte) : Statement (.incBpx nn) := ⟨rfl, rfl, Nat.le_of_ble_eq_true rfl⟩
theorem inw (nn : Byte) : Statement (.inw nn) := ⟨rfl, rfl, Nat.le_of_ble_eq_true rfl⟩
theorem inx : Statement (.inx) := ⟨rfl, rfl, Nat.le_of_ble_eq_true rfl⟩
theorem iny : Statement (.iny) := ⟨rfl, rfl, Nat.le_of_ble_eq_true rfl⟩
theorem inz : Statement (.inz) := ⟨rfl, rfl, Nat.le_of_ble_eq_true rfl⟩
theorem jmpAbs (nnnn : Addr) : Statement (.jmpAbs nnnn) := ⟨rfl, rfl, Nat.le_of_ble_eq_true rfl⟩
theorem jmpAbsind (nnnn : Addr) : Statement (.jmpAbsind nnnn) := ⟨rfl, rfl, Nat.le_of_ble_eq_true rfl⟩
theorem jmpAbsindx (nnnn : Addr) : Statement (.jmpAbsindx nnnn) := ⟨rfl, rfl, Nat.le_of_ble_eq_true rfl⟩
theorem jsrAbs (nnnn : Addr) : Statement (.jsrAbs nnnn) := ⟨rfl, rfl, Nat.le_of_ble_eq_true rfl⟩
theorem jsrAbsind (nnnn : Addr) : Statement (.jsrAbsind nnnn) := ⟨rfl, rfl, Nat.le_of_ble_eq_true rfl⟩
theorem jsrAbsindx (nnnn : Addr) : Statement (.jsrAbsindx nnnn) := ⟨rfl, rfl, Nat.le_of_ble_eq_true rfl⟩
theorem ldaAbs (nnnn : Addr) : Statement (.ldaAbs nnnn) := ⟨rfl, rfl, Nat.le_of_ble_eq_true rfl⟩
theorem ldaAbsx (nnnn : Addr) : Statement (.ldaAbsx nnnn) := ⟨rfl, rfl, Nat.le_of_ble_eq_true rfl⟩
theorem ldaAbsy (nnnn : Addr) : Statement (.ldaAbsy nnnn) := ⟨rfl, rfl, Nat.le_of_ble_eq_true rfl⟩
theorem ldaBp (nn : Byte) : Statement (.ldaBp nn) := ⟨rfl, rfl, Nat.le_of_ble_eq_true rfl⟩
theorem ldaBpx (nn : Byte) : Statement (.ldaBpx nn) := ⟨rfl, rfl, Nat.le_of_ble_eq_true rfl⟩
theorem ldaImm (nn : Byte) : Statement (.ldaImm nn) := ⟨rfl, rfl, Nat.le_of_ble_eq_true rfl⟩
theorem ldaIndspy (nn : Byte) : Statement (.ldaIndspy nn) := ⟨rfl, rfl, Nat.le_of_ble_eq_true rfl⟩
theorem ldaIndx (nn : Byte) : Statement (.ldaIndx nn) := ⟨rfl, rfl, Nat.le_of_ble_eq_true rfl⟩
theorem ldaIndy (nn : Byte) : Statement (.ldaIndy nn) := ⟨rfl, rfl, Nat.le_of_ble_eq_true rfl⟩
theorem ldaIndz (nn : Byte) : Statement (.ldaIndz nn) := ⟨rfl, rfl, Nat.le_of_ble_eq_true rfl⟩
theorem ldxAbs (nnnn : Addr) : Statement (.ldxAbs nnnn) := ⟨rfl, rfl, Nat.le_of_ble_eq_true rfl⟩
theorem ldxAbsy (nnnn : Addr) : Statement (.ldxAbsy nnnn) := ⟨rfl, rfl, Nat.le_of_ble_eq_true rfl⟩
theorem ldxBp (nn : Byte) : Statement (.ldxBp nn) := ⟨rfl, rfl, Nat.le_of_ble_eq_true rfl⟩
theorem ldxBpy (nn : Byte) : Statement (.ldxBpy nn) := ⟨rfl, rfl, Nat.le_of_ble_eq_true rfl⟩
theorem ldxImm (nn : Byte) : Statement (.ldxImm nn) := ⟨rfl, rfl, Nat.le_of_ble_eq_true rfl⟩
theorem ldyAbs (nnnn : Addr) : Statement (.ldyAbs nnnn) := ⟨rfl, rfl, Nat.le_of_ble_eq_true rfl⟩
theorem ldyAbsx (nnnn : Addr) : Statement (.ldyAbsx nnnn) := ⟨rfl, rfl, Nat.le_of_ble_eq_true rfl⟩
theorem ldyBp (nn : Byte) : Statement (.ldyBp nn) := ⟨rfl, rfl, Nat.le_of_ble_eq_true rfl⟩
theorem ldyBpx (nn : Byte) : Statement (.ldyBpx nn) := ⟨rfl, rfl, Nat.le_of_ble_eq_true rfl⟩
theorem ldyImm (nn : Byte) : Statement (.ldyImm nn) := ⟨rfl, rfl, Nat.le_of_ble_eq_true rfl⟩
theorem ldzAbs (nnnn : Addr) : Statement (.ldzAbs nnnn) := ⟨rfl, rfl, Nat.le_of_ble_eq_true rfl⟩
theorem ldzAbsx (nnnn : Addr) : Statement (.ldzAbsx nnnn) := ⟨rfl, rfl, Nat.le_of_ble_eq_true rfl⟩
theorem ldzImm (nn : Byte) : Statement (.ldzImm nn) := ⟨rfl, rfl, Nat.le_of_ble_eq_true rfl⟩
theorem lsrAbs (nnnn : Addr) : Statement (.lsrAbs nnnn) := ⟨rfl, rfl, Nat.le_of_ble_eq_true rfl⟩
theorem lsrAbsx (nnnn : Addr) : Statement (.lsrAbsx nnnn) := ⟨rfl, rfl, Nat.le_of_ble_eq_true rfl⟩
theorem lsrAcc : Statement (.lsrAcc) := ⟨rfl, rfl, Nat.le_of_ble_eq_true rfl⟩
theorem lsrBp (nn : Byte) : Statement (.lsrBp nn) := ⟨rfl, rfl, Nat.le_of_ble_eq_true rfl⟩
theorem lsrBpx (nn : Byte) : Statement (.lsrBpx nn) := ⟨rfl, rfl, Nat.le_of_ble_eq_true rfl⟩
theorem map : Statement (.map) := ⟨rfl, rfl, Nat.le_of_ble_eq_true rfl⟩
theorem neg : Statement (.neg) := ⟨rfl, rfl, Nat.le_of_ble_eq_true rfl⟩
theorem oraAbs (nnnn : Addr) : Statement (.oraAbs nnnn) := ⟨rfl, rfl, Nat.le_of_ble_eq_true rfl⟩
theorem oraAbsx (nnnn : Addr) : Statement (.oraAbsx nnnn) := ⟨rfl, rfl, Nat.le_of_ble_eq_true rfl⟩
theorem oraAbsy (nnnn : Addr) : Statement (.oraAbsy nnnn) := ⟨rfl, rfl, Nat.le_of_ble_eq_true rfl⟩
theorem oraBp (nn : Byte) : Statement (.oraBp nn) := ⟨rfl, rfl, Nat.le_of_ble_eq_true rfl⟩
theorem oraBpx (nn : Byte) : Statement (.oraBpx nn) := ⟨rfl, rfl, Nat.le_of_ble_eq_true rfl⟩
theorem oraImm (nn : Byte) : Statement (.oraImm nn) := ⟨rfl, rfl, Nat.le_of_ble_eq_true rfl⟩
theorem oraIndx (nn : Byte) : Statement (.oraIndx nn) := ⟨rfl, rfl, Nat.le_of_ble_eq_true rfl⟩
theorem oraIndy (nn : Byte) : Statement (.oraIndy nn) := ⟨rfl, rfl, Nat.le_of_ble_eq_true rfl⟩
theorem oraIndz (nn : Byte) : Statement (.oraIndz nn) := ⟨rfl, rfl, Nat.le_of_ble_eq_true rfl⟩
theorem pha : Statement (.pha) := ⟨rfl, rfl, Nat.le_of_ble_eq_true rfl⟩
theorem php : Statement (.php) := ⟨rfl, rfl, Nat.le_of_ble_eq_true rfl⟩
theorem phwAbs (nnnn : Addr) : Statement (.phwAbs nnnn) := ⟨rfl, rfl, Nat.le_of_ble_eq_true rfl⟩
theorem phwImmw (nnnn : Addr) : Statement (.phwImmw nnnn) := ⟨rfl, rfl, Nat.le_of_ble_eq_true rfl⟩
theorem phx : Statement (.phx) := ⟨rfl, rfl, Nat.le_of_ble_eq_true rfl⟩
theorem phy : Statement (.phy) := ⟨rfl, rfl, Nat.le_of_ble_eq_true rfl⟩
theorem phz : Statement (.phz) := ⟨rfl, rfl, Nat.le_of_ble_eq_true rfl⟩
theorem pla : Statement (.pla) := ⟨rfl, rfl, Nat.le_of_ble_eq_true rfl⟩
theorem plp : Statement (.plp) := ⟨rfl, rfl, Nat.le_of_ble_eq_true rfl⟩
theorem plx : Statement (.plx) := ⟨rfl, rfl, Nat.le_of_ble_eq_true rfl⟩
theorem ply : Statement (.ply) := ⟨rfl, rfl, Nat.le_of_ble_eq_true rfl⟩
theorem plz : Statement (.plz) := ⟨rfl, rfl, Nat.le_of_ble_eq_true rfl⟩
theorem rmb0 (nn : Byte) : Statement (.rmb0 nn) := ⟨rfl, rfl, Nat.le_of_ble_eq_true rfl⟩
theorem rmb1 (nn : Byte) : Statement (.rmb1 nn) := ⟨rfl, rfl, Nat.le_of_ble_eq_true rfl⟩
theorem rmb2 (nn : Byte) : Statement (.rmb2 nn) := ⟨rfl, rfl, Nat.le_of_ble_eq_true rfl⟩
theorem rmb3 (nn : Byte) : Statement (.rmb3 nn) := ⟨rfl, rfl, Nat.le_of_ble_eq_true rfl⟩
theorem rmb4 (nn : Byte) : Statement (.rmb4 nn) := ⟨rfl, rfl, Nat.le_of_ble_eq_true rfl⟩
theorem rmb5 (nn : Byte) : Statement (.rmb5 nn) := ⟨rfl, rfl, Nat.le_of_ble_eq_true rfl⟩
theorem rmb6 (nn : Byte) : Statement (.rmb6 nn) := ⟨rfl, rfl, Nat.le_of_ble_eq_true rfl⟩
theorem rmb7 (nn : Byte) : Statement (.rmb7 nn) := ⟨rfl, rfl, Nat.le_of_ble_eq_true rfl⟩
theorem rolAbs (nnnn : Addr) : Statement (.rolAbs nnnn) := ⟨rfl, rfl, Nat.le_of_ble_eq_true rfl⟩
theorem rolAbsx (nnnn : Addr) : Statement (.rolAbsx nnnn) := ⟨rfl, rfl, Nat.le_of_ble_eq_true rfl⟩
theorem rolAcc : Statement (.rolAcc) := ⟨rfl, rfl, Nat.le_of_ble_eq_true rfl⟩
theorem rolBp (nn : Byte) : Statement (.rolBp nn) := ⟨rfl, rfl, Nat.le_of_ble_eq_true rfl⟩
theorem rolBpx (nn : Byte) : Statement (.rolBpx nn) := ⟨rfl, rfl, Nat.le_of_ble_eq_true rfl⟩
theorem rorAbs (nnnn : Addr) : Statement (.rorAbs nnnn) := ⟨rfl, rfl, Nat.le_of_ble_eq_true rfl⟩
theorem rorAbsx (nnnn : Addr) : Statement (.rorAbsx nnnn) := ⟨rfl, rfl, Nat.le_of_ble_eq_true rfl⟩
theorem rorAcc : Statement (.rorAcc) := ⟨rfl, rfl, Nat.le_of_ble_eq_true rfl⟩
theorem rorBp (nn : Byte) : Statement (.rorBp nn) := ⟨rfl, rfl, Nat.le_of_ble_eq_true rfl⟩
theorem rorBpx (nn : Byte) : Statement (.rorBpx nn) := ⟨rfl, rfl, Nat.le_of_ble_eq_true rfl⟩
theorem row (nnnn : Addr) : Statement (.row nnnn) := ⟨rfl, rfl, Nat.le_of_ble_eq_true rfl⟩
theorem rti : Statement (.rti) := ⟨rfl, rfl, Nat.le_of_ble_eq_true rfl⟩
theorem rts : Statement (.rts) := ⟨rfl, rfl, Nat.le_of_ble_eq_true rfl⟩
theorem rtsImm (nn : Byte) : Statement (.rtsImm nn) := ⟨rfl, rfl, Nat.le_of_ble_eq_true rfl⟩
theorem sbcAbs (nnnn : Addr) : Statement (.sbcAbs nnnn) := ⟨rfl, rfl, Nat.le_of_ble_eq_true rfl⟩
theorem sbcAbsx (nnnn : Addr) : Statement (.sbcAbsx nnnn) := ⟨rfl, rfl, Nat.le_of_ble_eq_true rfl⟩
theorem sbcAbsy (nnnn : Addr) : Statement (.sbcAbsy nnnn) := ⟨rfl, rfl, Nat.le_of_ble_eq_true rfl⟩
theorem sbcBp (nn : Byte) : Statement (.sbcBp nn) := ⟨rfl, rfl, Nat.le_of_ble_eq_true rfl⟩
theorem sbcBpx (nn : Byte) : Statement (.sbcBpx nn) := ⟨rfl, rfl, Nat.le_of_ble_eq_true rfl⟩
theorem sbcImm (nn : Byte) : Statement (.sbcImm nn) := ⟨rfl, rfl, Nat.le_of_ble_eq_true rfl⟩
theorem sbcIndx (nn : Byte) : Statement (.sbcIndx nn) := ⟨rfl, rfl, Nat.le_of_ble_eq_true rfl⟩
theorem sbcIndy (nn : Byte) : Statement (.sbcIndy nn) := ⟨rfl, rfl, Nat.le_of_ble_eq_true rfl⟩
theorem sbcIndz (nn : Byte) : Statement (.sbcIndz nn) := ⟨rfl, rfl, Nat.le_of_ble_eq_true rfl⟩
theorem sec : Statement (.sec) := ⟨rfl, rfl, Nat.le_of_ble_eq_true rfl⟩
theorem sed : Statement (.sed) := ⟨rfl, rfl, Nat.le_of_ble_eq_true rfl⟩
theorem see : Statement (.see) := ⟨rfl, rfl, Nat.le_of_ble_eq_true rfl⟩
theorem sei : Statement (.sei) := ⟨rfl, rfl, Nat.le_of_ble_eq_true rfl⟩
theorem smb0 (nn : Byte) : Statement (.smb0 nn) := ⟨rfl, rfl, Nat.le_of_ble_eq_true rfl⟩
theorem smb1 (nn : Byte) : Statement (.smb1 nn) := ⟨rfl, rfl, Nat.le_of_ble_eq_true rfl⟩
theorem smb2 (nn : Byte) : Statement (.smb2 nn) := ⟨rfl, rfl, Nat.le_of_ble_eq_true rfl⟩
theorem smb3 (nn : Byte) : Statement (.smb3 nn) := ⟨rfl, rfl, Nat.le_of_ble_eq_true rfl⟩
theorem smb4 (nn : Byte) : Statement (.smb4 nn) := ⟨rfl, rfl, Nat.le_of_ble_eq_true rfl⟩
theorem smb5 (nn : Byte) : Statement (.smb5 nn) := ⟨rfl, rfl, Nat.le_of_ble_eq_true rfl⟩
theorem smb6 (nn : Byte) : Statement (.smb6 nn) := ⟨rfl, rfl, Nat.le_of_ble_eq_true rfl⟩
theorem smb7 (nn : Byte) : Statement (.smb7 nn) := ⟨rfl, rfl, Nat.le_of_ble_eq_true rfl⟩
theorem staAbs (nnnn : Addr) : Statement (.staAbs nnnn) := ⟨rfl, rfl, Nat.le_of_ble_eq_true rfl⟩
theorem staAbsx (nnnn : Addr) : Statement (.staAbsx nnnn) := ⟨rfl, rfl, Nat.le_of_ble_eq_true rfl⟩
theorem staAbsy (nnnn : Addr) : Statement (.staAbsy nnnn) := ⟨rfl, rfl, Nat.le_of_ble_eq_true rfl⟩
theorem staBp (nn : Byte) : Statement (.staBp nn) := ⟨rfl, rfl, Nat.le_of_ble_eq_true rfl⟩
theorem staBpx (nn : Byte) : Statement (.staBpx nn) := ⟨rfl, rfl, Nat.le_of_ble_eq_true rfl⟩
theorem staIndspy (nn : Byte) : Statement (.staIndspy nn) := ⟨rfl, rfl, Nat.le_of_ble_eq_true rfl⟩
theorem staIndx (nn : Byte) : Statement (.staIndx nn) := ⟨rfl, rfl, Nat.le_of_ble_eq_true rfl⟩
theorem staIndy (nn : Byte) : Statement (.staIndy nn) := ⟨rfl, rfl, Nat.le_of_ble_eq_true rfl⟩
theorem staIndz (nn : Byte) : Statement (.staIndz nn) := ⟨rfl, rfl, Nat.le_of_ble_eq_true rfl⟩
theorem stxAbs (nnnn : Addr) : Statement (.stxAbs nnnn) := ⟨rfl, rfl, Nat.le_of_ble_eq_true rfl⟩
theorem stxAbsy (nnnn : Addr) : Statement (.stxAbsy nnnn) := ⟨rfl, rfl, Nat.le_of_ble_eq_true rfl⟩
theorem stxBp (nn : Byte) : Statement (.stxBp nn) := ⟨rfl, rfl, Nat.le_of_ble_eq_true rfl⟩
theorem stxBpy (nn : Byte) : Statement (.stxBpy nn) := ⟨rfl, rfl, Nat.le_of_ble_eq_true rfl⟩
theorem styAbs (nnnn : Addr) : Statement (.styAbs nnnn) := ⟨rfl, rfl, Nat.le_of_ble_eq_true rfl⟩
theorem styAbsx (nnnn : Addr) : Statement (.styAbsx nnnn) := ⟨rfl, rfl, Nat.le_of_ble_eq_true rfl⟩
theorem styBp (nn : Byte) : Statement (.styBp nn) := ⟨rfl, rfl, Nat.le_of_ble_eq_true rfl⟩
theorem styBpx (nn : Byte) : Statement (.styBpx nn) := ⟨rfl, rfl, Nat.le_of_ble_eq_true rfl⟩
theorem stzAbs (nnnn : Addr) : Statement (.stzAbs nnnn) := ⟨rfl, rfl, Nat.le_of_ble_eq_true rfl⟩
theorem stzAbsx (nnnn : Addr) : Statement (.stzAbsx nnnn) := ⟨rfl, rfl, Nat.le_of_ble_eq_true rfl⟩
theorem stzBp (nn : Byte) : Statement (.stzBp nn) := ⟨rfl, rfl, Nat.le_of_ble_eq_true rfl⟩
theorem stzBpx (nn : Byte) : Statement (.stzBpx nn) := ⟨rfl, rfl, Nat.le_of_ble_eq_true rfl⟩
theorem tab : Statement (.tab) := ⟨rfl, rfl, Nat.le_of_ble_eq_true rfl⟩
theorem tax : Statement (.tax) := ⟨rfl, rfl, Nat.le_of_ble_eq_true rfl⟩
theorem tay : Statement (.tay) := ⟨rfl, rfl, Nat.le_of_ble_eq_true rfl⟩
theorem taz : Statement (.taz) := ⟨rfl, rfl, Nat.le_of_ble_eq_true rfl⟩
theorem tba : Statement (.tba) := ⟨rfl, rfl, Nat.le_of_ble_eq_true rfl⟩
theorem trbAbs (nnnn : Addr) : Statement (.trbAbs nnnn) := ⟨rfl, rfl, Nat.le_of_ble_eq_true rfl⟩
theorem trbBp (nn : Byte) : Statement (.trbBp nn) := ⟨rfl, rfl, Nat.le_of_ble_eq_true rfl⟩
theorem tsbAbs (nnnn : Addr) : Statement (.tsbAbs nnnn) := ⟨rfl, rfl, Nat.le_of_ble_eq_true rfl⟩
theorem tsbBp (nn : Byte) : Statement (.tsbBp nn) := ⟨rfl, rfl, Nat.le_of_ble_eq_true rfl⟩
theorem tsx : Statement (.tsx) := ⟨rfl, rfl, Nat.le_of_ble_eq_true rfl⟩
theorem tsy : Statement (.tsy) := ⟨rfl, rfl, Nat.le_of_ble_eq_true rfl⟩
theorem txa : Statement (.txa) := ⟨rfl, rfl, Nat.le_of_ble_eq_true rfl⟩
theorem txs : Statement (.txs) := ⟨rfl, rfl, Nat.le_of_ble_eq_true rfl⟩
theorem tya : Statement (.tya) := ⟨rfl, rfl, Nat.le_of_ble_eq_true rfl⟩
theorem tys : Statement (.tys) := ⟨rfl, rfl, Nat.le_of_ble_eq_true rfl⟩
theorem tza : Statement (.tza) := ⟨rfl, rfl, Nat.le_of_ble_eq_true rfl⟩

end Sys2Proof.Laws.EncodingShape
end

