-- ==== Sys2Proof/Machine/Timing.lean ====
section
/-! DEFINITION. The cycle counts the source prints, as documentation (`70_reset_and_hazards.md` rules R580 to R582).
No step reads them: timing is outside the functional model. Log entry 20. -/
namespace Sys2Proof.Machine

/-- The footnotes of the source's `Cycles` column (R582). -/
inductive CycleNote where
  /-- "Add one cycle if branch is taken." -/
  | b
  /-- "Subtract non-bus cycles when at 40MHz." -/
  | m
  /-- "Add one cycle if indexing crosses a page boundary." -/
  | p
  /-- "Add one cycle if clock speed is at 40 MHz." -/
  | r
  /-- "Instruction requires 2 cycles when CPU is run at 1MHz or 2MHz." -/
  | s
deriving DecidableEq, Repr

/-- The counts printed for the first bytes `$00` to `$7F`, with their footnotes; `none` where the source has "Cycles
not in source documentation." (R581). It has that for every first byte from `$80` on. -/
def printedCyclesLow : List (Option (Nat × List CycleNote)) :=
  [ some (7, []),
    some (6, [.p, .r]),
    some (1, []),
    some (1, []),
    some (3, [.r]),
    some (3, [.r]),
    some (4, [.r]),
    some (4, [.b, .r]),
    some (2, []),
    some (2, []),
    some (1, []),
    some (1, []),
    some (5, [.r]),
    some (4, [.r]),
    some (5, [.r]),
    none
  ] ++
  [ some (2, [.b]),
    some (5, [.p, .r]),
    some (5, [.p, .r]),
    some (3, [.b]),
    some (5, [.r]),
    some (3, [.r]),
    some (4, [.r]),
    some (4, [.b, .r]),
    some (1, []),
    some (4, [.r]),
    some (1, []),
    some (1, []),
    some (4, [.r]),
    some (4, [.p, .r]),
    some (5, [.p, .r]),
    some (5, [.b])
  ] ++
  [ some (5, [.s]),
    some (5, [.p, .r]),
    some (5, [.r]),
    some (5, [.p, .r]),
    some (3, [.r]),
    some (3, [.r]),
    some (4, [.r]),
    some (4, [.r]),
    some (4, [.m]),
    some (2, []),
    some (1, []),
    some (1, []),
    some (4, [.r]),
    some (4, [.r]),
    some (5, [.r]),
    some (5, [.b])
  ] ++
  [ some (2, [.r]),
    some (5, [.p, .r]),
    some (5, [.p, .r]),
    some (3, [.b]),
    some (3, [.p, .r]),
    some (4, [.p, .r]),
    some (5, [.p, .r]),
    some (4, [.r]),
    some (1, []),
    some (4, [.r]),
    some (1, []),
    some (1, []),
    some (4, [.p, .r]),
    some (4, [.p, .r]),
    some (5, [.p, .r]),
    some (4, [.b])
  ] ++
  [ some (6, [.m]),
    some (5, [.r]),
    some (1, []),
    some (1, []),
    some (4, [.r]),
    some (3, [.r]),
    some (4, [.r]),
    some (4, [.r]),
    some (2, []),
    some (2, []),
    some (1, []),
    some (1, []),
    some (3, []),
    some (4, [.r]),
    some (5, [.r]),
    some (4, [.b, .r])
  ] ++
  [ some (2, [.b]),
    some (5, [.p, .r]),
    some (5, [.p, .r]),
    some (3, [.b]),
    some (5, [.p, .r]),
    some (3, [.p]),
    some (3, [.p, .r]),
    some (4, [.r]),
    some (1, []),
    some (4, [.p, .r]),
    some (2, []),
    some (1, []),
    some (1, []),
    some (4, [.p, .r]),
    some (5, [.p, .r]),
    some (4, [.b, .r])
  ] ++
  [ some (6, [.m]),
    some (5, [.r]),
    some (4, []),
    some (3, [.b]),
    some (3, []),
    some (3, [.r]),
    some (5, [.r]),
    some (5, [.r]),
    some (4, [.m]),
    some (2, []),
    some (1, []),
    some (1, []),
    some (5, [.r]),
    some (4, [.r]),
    some (6, [.r]),
    some (4, [.b, .r])
  ] ++
  [ some (2, [.b]),
    some (5, [.p, .r]),
    some (5, [.p, .r]),
    some (3, [.b]),
    some (3, []),
    some (3, [.r]),
    none,
    none,
    none,
    some (4, [.r]),
    none,
    none,
    none,
    some (4, [.r]),
    none,
    none
  ]

/-- The printed count of an instruction and its footnotes; `none` where the source has "Cycles not in source
documentation." (R581). -/
def printedCycles (i : Instr) : Option (Nat × List CycleNote) := printedCyclesLow.getD i.opcode.toNat none

end Sys2Proof.Machine
end

