-- ==== Sys2Proof/Tests/Slice0.lean ====
section
/-! SUPPORT. The tests: an ill-formed term for each check of well-formedness, the decoding of a word of every row of
the opcode map, the spec's own worked examples one step each, and a witness for each statement that has
hypotheses. Expected results are the spec's, not the model's. -/
namespace Sys2Proof.Tests

open Sys2Proof Sys2Proof.Machine

/-! ### Well-formedness -/

theorem test_defaults_are_well_formed : defaultParams.wellFormed = true := by decide

theorem test_rel16_base_3_is_well_formed : ({ defaultParams with rel16Base := 3 } : Params).wellFormed = true := by
  decide

theorem test_rel16_base_1_is_refused : ({ defaultParams with rel16Base := 1 } : Params).wellFormed = false := by
  decide

theorem test_rel16_base_4_is_refused : ({ defaultParams with rel16Base := 4 } : Params).wellFormed = false := by
  decide

theorem test_33_address_bits_are_refused : ({ defaultParams with flatAddrBits := 33 } : Params).wellFormed = false := by
  decide

/-! ### Decoding: for every row of the opcode map, bytes written out from R102, R104 and R105 -/

/-- Each string of bytes decodes to the instruction beside it, and nothing is left over. -/
def decodesTo (l : List (List Byte × Instr)) : Bool :=
  l.all fun c => match decode c.1 with
    | .ok (i, []) => decide (i = c.2)
    | _ => false

theorem test_decode_row_0 : decodesTo
    [([0x00], .brk), ([0x01, 0x34], .oraIndx 0x34), ([0x02], .cle), ([0x03], .see), ([0x04, 0x34], .tsbBp 0x34),
     ([0x05, 0x34], .oraBp 0x34), ([0x06, 0x34], .aslBp 0x34), ([0x07, 0x34], .rmb0 0x34), ([0x08], .php),
     ([0x09, 0x34], .oraImm 0x34), ([0x0A], .aslAcc), ([0x0B], .tsy), ([0x0C, 0x34, 0x12], .tsbAbs 0x1234),
     ([0x0D, 0x34, 0x12], .oraAbs 0x1234), ([0x0E, 0x34, 0x12], .aslAbs 0x1234),
     ([0x0F, 0x34, 0x12], .bbr0 0x34 0x12)] = true := by decide

theorem test_decode_row_1 : decodesTo
    [([0x10, 0x34], .bplRel 0x34), ([0x11, 0x34], .oraIndy 0x34), ([0x12, 0x34], .oraIndz 0x34),
     ([0x13, 0x34, 0x12], .bplRelw 0x1234), ([0x14, 0x34], .trbBp 0x34), ([0x15, 0x34], .oraBpx 0x34),
     ([0x16, 0x34], .aslBpx 0x34), ([0x17, 0x34], .rmb1 0x34), ([0x18], .clc),
     ([0x19, 0x34, 0x12], .oraAbsy 0x1234), ([0x1A], .incAcc), ([0x1B], .inz), ([0x1C, 0x34, 0x12], .trbAbs 0x1234),
     ([0x1D, 0x34, 0x12], .oraAbsx 0x1234), ([0x1E, 0x34, 0x12], .aslAbsx 0x1234),
     ([0x1F, 0x34, 0x12], .bbr1 0x34 0x12)] = true := by decide

theorem test_decode_row_2 : decodesTo
    [([0x20, 0x34, 0x12], .jsrAbs 0x1234), ([0x21, 0x34], .andIndx 0x34), ([0x22, 0x34, 0x12], .jsrAbsind 0x1234),
     ([0x23, 0x34, 0x12], .jsrAbsindx 0x1234), ([0x24, 0x34], .bitBp 0x34), ([0x25, 0x34], .andBp 0x34),
     ([0x26, 0x34], .rolBp 0x34), ([0x27, 0x34], .rmb2 0x34), ([0x28], .plp), ([0x29, 0x34], .andImm 0x34),
     ([0x2A], .rolAcc), ([0x2B], .tys), ([0x2C, 0x34, 0x12], .bitAbs 0x1234), ([0x2D, 0x34, 0x12], .andAbs 0x1234),
     ([0x2E, 0x34, 0x12], .rolAbs 0x1234), ([0x2F, 0x34, 0x12], .bbr2 0x34 0x12)] = true := by decide

theorem test_decode_row_3 : decodesTo
    [([0x30, 0x34], .bmiRel 0x34), ([0x31, 0x34], .andIndy 0x34), ([0x32, 0x34], .andIndz 0x34),
     ([0x33, 0x34, 0x12], .bmiRelw 0x1234), ([0x34, 0x34], .bitBpx 0x34), ([0x35, 0x34], .andBpx 0x34),
     ([0x36, 0x34], .rolBpx 0x34), ([0x37, 0x34], .rmb3 0x34), ([0x38], .sec),
     ([0x39, 0x34, 0x12], .andAbsy 0x1234), ([0x3A], .decAcc), ([0x3B], .dez),
     ([0x3C, 0x34, 0x12], .bitAbsx 0x1234), ([0x3D, 0x34, 0x12], .andAbsx 0x1234),
     ([0x3E, 0x34, 0x12], .rolAbsx 0x1234), ([0x3F, 0x34, 0x12], .bbr3 0x34 0x12)] = true := by decide

theorem test_decode_row_4 : decodesTo
    [([0x40], .rti), ([0x41, 0x34], .eorIndx 0x34), ([0x42], .neg), ([0x43], .asrAcc), ([0x44, 0x34], .asrBp 0x34),
     ([0x45, 0x34], .eorBp 0x34), ([0x46, 0x34], .lsrBp 0x34), ([0x47, 0x34], .rmb4 0x34), ([0x48], .pha),
     ([0x49, 0x34], .eorImm 0x34), ([0x4A], .lsrAcc), ([0x4B], .taz), ([0x4C, 0x34, 0x12], .jmpAbs 0x1234),
     ([0x4D, 0x34, 0x12], .eorAbs 0x1234), ([0x4E, 0x34, 0x12], .lsrAbs 0x1234),
     ([0x4F, 0x34, 0x12], .bbr4 0x34 0x12)] = true := by decide

theorem test_decode_row_5 : decodesTo
    [([0x50, 0x34], .bvcRel 0x34), ([0x51, 0x34], .eorIndy 0x34), ([0x52, 0x34], .eorIndz 0x34),
     ([0x53, 0x34, 0x12], .bvcRelw 0x1234), ([0x54, 0x34], .asrBpx 0x34), ([0x55, 0x34], .eorBpx 0x34),
     ([0x56, 0x34], .lsrBpx 0x34), ([0x57, 0x34], .rmb5 0x34), ([0x58], .cli),
     ([0x59, 0x34, 0x12], .eorAbsy 0x1234), ([0x5A], .phy), ([0x5B], .tab), ([0x5C], .map),
     ([0x5D, 0x34, 0x12], .eorAbsx 0x1234), ([0x5E, 0x34, 0x12], .lsrAbsx 0x1234),
     ([0x5F, 0x34, 0x12], .bbr5 0x34 0x12)] = true := by decide

theorem test_decode_row_6 : decodesTo
    [([0x60], .rts), ([0x61, 0x34], .adcIndx 0x34), ([0x62, 0x34], .rtsImm 0x34), ([0x63, 0x34, 0x12], .bsr 0x1234),
     ([0x64, 0x34], .stzBp 0x34), ([0x65, 0x34], .adcBp 0x34), ([0x66, 0x34], .rorBp 0x34),
     ([0x67, 0x34], .rmb6 0x34), ([0x68], .pla), ([0x69, 0x34], .adcImm 0x34), ([0x6A], .rorAcc), ([0x6B], .tza),
     ([0x6C, 0x34, 0x12], .jmpAbsind 0x1234), ([0x6D, 0x34, 0x12], .adcAbs 0x1234),
     ([0x6E, 0x34, 0x12], .rorAbs 0x1234), ([0x6F, 0x34, 0x12], .bbr6 0x34 0x12)] = true := by decide

theorem test_decode_row_7 : decodesTo
    [([0x70, 0x34], .bvsRel 0x34), ([0x71, 0x34], .adcIndy 0x34), ([0x72, 0x34], .adcIndz 0x34),
     ([0x73, 0x34, 0x12], .bvsRelw 0x1234), ([0x74, 0x34], .stzBpx 0x34), ([0x75, 0x34], .adcBpx 0x34),
     ([0x76, 0x34], .rorBpx 0x34), ([0x77, 0x34], .rmb7 0x34), ([0x78], .sei),
     ([0x79, 0x34, 0x12], .adcAbsy 0x1234), ([0x7A], .ply), ([0x7B], .tba),
     ([0x7C, 0x34, 0x12], .jmpAbsindx 0x1234), ([0x7D, 0x34, 0x12], .adcAbsx 0x1234),
     ([0x7E, 0x34, 0x12], .rorAbsx 0x1234), ([0x7F, 0x34, 0x12], .bbr7 0x34 0x12)] = true := by decide

theorem test_decode_row_8 : decodesTo
    [([0x80, 0x34], .braRel 0x34), ([0x81, 0x34], .staIndx 0x34), ([0x82, 0x34], .staIndspy 0x34),
     ([0x83, 0x34, 0x12], .braRelw 0x1234), ([0x84, 0x34], .styBp 0x34), ([0x85, 0x34], .staBp 0x34),
     ([0x86, 0x34], .stxBp 0x34), ([0x87, 0x34], .smb0 0x34), ([0x88], .dey), ([0x89, 0x34], .bitImm 0x34),
     ([0x8A], .txa), ([0x8B, 0x34, 0x12], .styAbsx 0x1234), ([0x8C, 0x34, 0x12], .styAbs 0x1234),
     ([0x8D, 0x34, 0x12], .staAbs 0x1234), ([0x8E, 0x34, 0x12], .stxAbs 0x1234),
     ([0x8F, 0x34, 0x12], .bbs0 0x34 0x12)] = true := by decide

theorem test_decode_row_9 : decodesTo
    [([0x90, 0x34], .bccRel 0x34), ([0x91, 0x34], .staIndy 0x34), ([0x92, 0x34], .staIndz 0x34),
     ([0x93, 0x34, 0x12], .bccRelw 0x1234), ([0x94, 0x34], .styBpx 0x34), ([0x95, 0x34], .staBpx 0x34),
     ([0x96, 0x34], .stxBpy 0x34), ([0x97, 0x34], .smb1 0x34), ([0x98], .tya),
     ([0x99, 0x34, 0x12], .staAbsy 0x1234), ([0x9A], .txs), ([0x9B, 0x34, 0x12], .stxAbsy 0x1234),
     ([0x9C, 0x34, 0x12], .stzAbs 0x1234), ([0x9D, 0x34, 0x12], .staAbsx 0x1234),
     ([0x9E, 0x34, 0x12], .stzAbsx 0x1234), ([0x9F, 0x34, 0x12], .bbs1 0x34 0x12)] = true := by decide

theorem test_decode_row_A : decodesTo
    [([0xA0, 0x34], .ldyImm 0x34), ([0xA1, 0x34], .ldaIndx 0x34), ([0xA2, 0x34], .ldxImm 0x34),
     ([0xA3, 0x34], .ldzImm 0x34), ([0xA4, 0x34], .ldyBp 0x34), ([0xA5, 0x34], .ldaBp 0x34),
     ([0xA6, 0x34], .ldxBp 0x34), ([0xA7, 0x34], .smb2 0x34), ([0xA8], .tay), ([0xA9, 0x34], .ldaImm 0x34),
     ([0xAA], .tax), ([0xAB, 0x34, 0x12], .ldzAbs 0x1234), ([0xAC, 0x34, 0x12], .ldyAbs 0x1234),
     ([0xAD, 0x34, 0x12], .ldaAbs 0x1234), ([0xAE, 0x34, 0x12], .ldxAbs 0x1234),
     ([0xAF, 0x34, 0x12], .bbs2 0x34 0x12)] = true := by decide

theorem test_decode_row_B : decodesTo
    [([0xB0, 0x34], .bcsRel 0x34), ([0xB1, 0x34], .ldaIndy 0x34), ([0xB2, 0x34], .ldaIndz 0x34),
     ([0xB3, 0x34, 0x12], .bcsRelw 0x1234), ([0xB4, 0x34], .ldyBpx 0x34), ([0xB5, 0x34], .ldaBpx 0x34),
     ([0xB6, 0x34], .ldxBpy 0x34), ([0xB7, 0x34], .smb3 0x34), ([0xB8], .clv),
     ([0xB9, 0x34, 0x12], .ldaAbsy 0x1234), ([0xBA], .tsx), ([0xBB, 0x34, 0x12], .ldzAbsx 0x1234),
     ([0xBC, 0x34, 0x12], .ldyAbsx 0x1234), ([0xBD, 0x34, 0x12], .ldaAbsx 0x1234),
     ([0xBE, 0x34, 0x12], .ldxAbsy 0x1234), ([0xBF, 0x34, 0x12], .bbs3 0x34 0x12)] = true := by decide

theorem test_decode_row_C : decodesTo
    [([0xC0, 0x34], .cpyImm 0x34), ([0xC1, 0x34], .cmpIndx 0x34), ([0xC2, 0x34], .cpzImm 0x34),
     ([0xC3, 0x34], .dew 0x34), ([0xC4, 0x34], .cpyBp 0x34), ([0xC5, 0x34], .cmpBp 0x34),
     ([0xC6, 0x34], .decBp 0x34), ([0xC7, 0x34], .smb4 0x34), ([0xC8], .iny), ([0xC9, 0x34], .cmpImm 0x34),
     ([0xCA], .dex), ([0xCB, 0x34, 0x12], .asw 0x1234), ([0xCC, 0x34, 0x12], .cpyAbs 0x1234),
     ([0xCD, 0x34, 0x12], .cmpAbs 0x1234), ([0xCE, 0x34, 0x12], .decAbs 0x1234),
     ([0xCF, 0x34, 0x12], .bbs4 0x34 0x12)] = true := by decide

theorem test_decode_row_D : decodesTo
    [([0xD0, 0x34], .bneRel 0x34), ([0xD1, 0x34], .cmpIndy 0x34), ([0xD2, 0x34], .cmpIndz 0x34),
     ([0xD3, 0x34, 0x12], .bneRelw 0x1234), ([0xD4, 0x34], .cpzBp 0x34), ([0xD5, 0x34], .cmpBpx 0x34),
     ([0xD6, 0x34], .decBpx 0x34), ([0xD7, 0x34], .smb5 0x34), ([0xD8], .cld),
     ([0xD9, 0x34, 0x12], .cmpAbsy 0x1234), ([0xDA], .phx), ([0xDB], .phz), ([0xDC, 0x34, 0x12], .cpzAbs 0x1234),
     ([0xDD, 0x34, 0x12], .cmpAbsx 0x1234), ([0xDE, 0x34, 0x12], .decAbsx 0x1234),
     ([0xDF, 0x34, 0x12], .bbs5 0x34 0x12)] = true := by decide

theorem test_decode_row_E : decodesTo
    [([0xE0, 0x34], .cpxImm 0x34), ([0xE1, 0x34], .sbcIndx 0x34), ([0xE2, 0x34], .ldaIndspy 0x34),
     ([0xE3, 0x34], .inw 0x34), ([0xE4, 0x34], .cpxBp 0x34), ([0xE5, 0x34], .sbcBp 0x34),
     ([0xE6, 0x34], .incBp 0x34), ([0xE7, 0x34], .smb6 0x34), ([0xE8], .inx), ([0xE9, 0x34], .sbcImm 0x34),
     ([0xEA], .eom), ([0xEB, 0x34, 0x12], .row 0x1234), ([0xEC, 0x34, 0x12], .cpxAbs 0x1234),
     ([0xED, 0x34, 0x12], .sbcAbs 0x1234), ([0xEE, 0x34, 0x12], .incAbs 0x1234),
     ([0xEF, 0x34, 0x12], .bbs6 0x34 0x12)] = true := by decide

theorem test_decode_row_F : decodesTo
    [([0xF0, 0x34], .beqRel 0x34), ([0xF1, 0x34], .sbcIndy 0x34), ([0xF2, 0x34], .sbcIndz 0x34),
     ([0xF3, 0x34, 0x12], .beqRelw 0x1234), ([0xF4, 0x34, 0x12], .phwImmw 0x1234), ([0xF5, 0x34], .sbcBpx 0x34),
     ([0xF6, 0x34], .incBpx 0x34), ([0xF7, 0x34], .smb7 0x34), ([0xF8], .sed),
     ([0xF9, 0x34, 0x12], .sbcAbsy 0x1234), ([0xFA], .plx), ([0xFB], .plz), ([0xFC, 0x34, 0x12], .phwAbs 0x1234),
     ([0xFD, 0x34, 0x12], .sbcAbsx 0x1234), ([0xFE, 0x34, 0x12], .incAbsx 0x1234),
     ([0xFF, 0x34, 0x12], .bbs7 0x34 0x12)] = true := by decide

theorem test_decode_needs_a_byte : decode [] = .error .noOpcode := rfl

theorem test_decode_needs_the_operand : decode [0xAD, 0x00] = .error .missingOperand := rfl

theorem test_decode_leaves_the_rest : decode [0xEA, 0xB2, 0x10] = .ok (.eom, [0xB2, 0x10]) := rfl

theorem test_table_word : decodeTableWord 24 0x1234CB = some (.asw 0x1234) := by decide

theorem test_table_word_short : decodeTableWord 8 0xFFFF00 = some .brk := by decide

/-! ### One step each: the worked examples of `41_` to `45_`, `60_` and `95_` -/

/-- The start state of the examples: the reset state, whose values are the examples' defaults. -/
def start : State := Machine.State.reset

/-- One step with `code` at `pos` and the listed bytes of memory. -/
def ran (pos : Addr) (code : List Byte) (cells : List (FlatAddr × Byte)) (s : State) : Option State :=
  let placed : State := cells.foldl (fun u c => u.flatWrite c.1 c.2) s
  match step (({ placed with pc := pos } : State).placeCode code pos) with
  | .next t => some t
  | _ => none

theorem test_lda_a9_80 :
    (ran 0x2000 [0xA9, 0x80] [] start).map
      (fun t => (t.a, t.p.n, t.p.z, t.pc)) =
      some (0x80, true, false, 0x2002) := by decide

theorem test_lda_b1_40 :
    (ran 0x2000 [0xB1, 0x40] [(0x0040, 0xF8), (0x0041, 0x12), (0x1308, 0x80)] { start with y := 0x10 }).map
      (fun t => (t.a, t.p.n, t.p.z, t.pc)) =
      some (0x80, true, false, 0x2002) := by decide

theorem test_ldx_b6_ff :
    (ran 0x2000 [0xB6, 0xFF] [(0x0000, 0x7F), (0x0100, 0xEE)] { start with y := 0x01 }).map
      (fun t => (t.x, t.p.n, t.p.z, t.pc)) =
      some (0x7F, false, false, 0x2002) := by decide

theorem test_ldy_bc_fe_ff :
    (ran 0x2000 [0xBC, 0xFE, 0xFF] [(0x0003, 0x00)] { start with x := 0x05 }).map
      (fun t => (t.p.n, t.p.z, t.pc)) =
      some (false, true, 0x2003) := by decide

theorem test_ldz_a3_00 :
    (ran 0x2000 [0xA3, 0x00] [] start).map
      (fun t => (t.z, t.p.n, t.p.z, t.pc)) =
      some (0x00, false, true, 0x2002) := by decide

theorem test_sta_81_fe :
    (ran 0x2000 [0x81, 0xFE] [(0x0002, 0x00), (0x0003, 0x30)] { start with a := 0x42, x := 0x04 }).map
      (fun t => (t.mem.read 0x3000, t.pc)) =
      some (0x42, 0x2002) := by decide

theorem test_sta_82_01 :
    (ran 0x2000 [0x82, 0x01] [(0x01FE, 0x34), (0x01FF, 0x12)] { start with a := 0x99, spl := 0xFD, y := 0x01 }).map
      (fun t => (t.mem.read 0x1235, t.pc)) =
      some (0x99, 0x2002) := by decide

theorem test_stx_9b_00_30 :
    (ran 0x2000 [0x9B, 0x00, 0x30] [] { start with x := 0x11, y := 0x02 }).map
      (fun t => (t.mem.read 0x3002, t.pc)) =
      some (0x11, 0x2003) := by decide

theorem test_sty_8b_00_30 :
    (ran 0x2000 [0x8B, 0x00, 0x30] [] { start with y := 0x22, x := 0x03 }).map
      (fun t => (t.mem.read 0x3003, t.pc)) =
      some (0x22, 0x2003) := by decide

theorem test_stz_9e_ff_30 :
    (ran 0x2000 [0x9E, 0xFF, 0x30] [] { start with z := 0x5A, x := 0x01 }).map
      (fun t => (t.mem.read 0x3100, t.pc)) =
      some (0x5A, 0x2003) := by decide

theorem test_tax_aa :
    (ran 0x2000 [0xAA] [] { start with a := 0x00, x := 0x55 }).map
      (fun t => (t.x, t.p.n, t.p.z, t.pc)) =
      some (0x00, false, true, 0x2001) := by decide

theorem test_tay_a8 :
    (ran 0x2000 [0xA8] [] { start with a := 0x80 }).map
      (fun t => (t.y, t.p.n, t.p.z, t.pc)) =
      some (0x80, true, false, 0x2001) := by decide

theorem test_taz_4b :
    (ran 0x2000 [0x4B] [] { start with a := 0x7F }).map
      (fun t => (t.z, t.p.n, t.p.z, t.pc)) =
      some (0x7F, false, false, 0x2001) := by decide

theorem test_tba_7b :
    (ran 0x2000 [0x7B] [] { start with b := 0xC0 }).map
      (fun t => (t.a, t.p.n, t.p.z, t.pc)) =
      some (0xC0, true, false, 0x2001) := by decide

theorem test_tsx_ba :
    (ran 0x2000 [0xBA] [] { start with sph := 0x01, spl := 0xF0 }).map
      (fun t => (t.x, t.p.n, t.p.z, t.pc)) =
      some (0xF0, true, false, 0x2001) := by decide

theorem test_tsy_0b :
    (ran 0x2000 [0x0B] [] { start with sph := 0x01, y := 0xFF }).map
      (fun t => (t.y, t.p.n, t.p.z, t.pc)) =
      some (0x01, false, false, 0x2001) := by decide

theorem test_txa_8a :
    (ran 0x2000 [0x8A] [] { start with x := 0xFF }).map
      (fun t => (t.a, t.p.n, t.p.z, t.pc)) =
      some (0xFF, true, false, 0x2001) := by decide

theorem test_txs_9a :
    (ran 0x2000 [0x9A] [] { start with x := 0xFF, spl := 0x00 }).map
      (fun t => (t.spl, t.pc)) =
      some (0xFF, 0x2001) := by decide

theorem test_tya_98 :
    (ran 0x2000 [0x98] [] { start with y := 0x00, a := 0x33 }).map
      (fun t => (t.a, t.p.n, t.p.z, t.pc)) =
      some (0x00, false, true, 0x2001) := by decide

theorem test_tza_6b :
    (ran 0x2000 [0x6B] [] { start with z := 0x81 }).map
      (fun t => (t.a, t.p.n, t.p.z, t.pc)) =
      some (0x81, true, false, 0x2001) := by decide

theorem test_adc_69_00 :
    (ran 0x2000 [0x69, 0x00] [] { start with a := 0x7F, p := { start.p with c := true } }).map
      (fun t => ((t.a, t.p.n, t.p.v, t.p.z, t.p.c), t.pc)) =
      some ((0x80, true, true, false, false), 0x2002) := by decide

theorem test_adc_6d_00_30 :
    (ran 0x2000 [0x6D, 0x00, 0x30] [(0x3000, 0x80)] { start with a := 0x80 }).map
      (fun t => ((t.a, t.p.n, t.p.v, t.p.z, t.p.c), t.pc)) =
      some ((0x00, false, true, true, true), 0x2003) := by decide

theorem test_and_29_0f :
    (ran 0x2000 [0x29, 0x0F] [] { start with a := 0xF0 }).map
      (fun t => (t.a, t.p.n, t.p.z, t.pc)) =
      some (0x00, false, true, 0x2002) := by decide

theorem test_bit_24_10 :
    (ran 0x2000 [0x24, 0x10] [(0x0010, 0xC0)] { start with a := 0x01 }).map
      (fun t => (t.p.n, t.p.v, t.p.z, t.pc)) =
      some (true, true, true, 0x2002) := by decide

theorem test_bit_89_40 :
    (ran 0x2000 [0x89, 0x40] [] { start with a := 0xFF }).map
      (fun t => (t.p.n, t.p.v, t.p.z, t.pc)) =
      some (false, true, false, 0x2002) := by decide

theorem test_cmp_c9_40 :
    (ran 0x2000 [0xC9, 0x40] [] { start with a := 0x40 }).map
      (fun t => (t.p.n, t.p.z, t.p.c, t.pc)) =
      some (false, true, true, 0x2002) := by decide

theorem test_cpx_e0_01 :
    (ran 0x2000 [0xE0, 0x01] [] { start with x := 0x00 }).map
      (fun t => (t.p.n, t.p.z, t.p.c, t.pc)) =
      some (true, false, false, 0x2002) := by decide

theorem test_cpy_c0_01 :
    (ran 0x2000 [0xC0, 0x01] [] { start with y := 0x80 }).map
      (fun t => (t.p.n, t.p.z, t.p.c, t.pc)) =
      some (false, false, true, 0x2002) := by decide

theorem test_cpz_c2_7f :
    (ran 0x2000 [0xC2, 0x7F] [] { start with z := 0xFF }).map
      (fun t => (t.p.n, t.p.z, t.p.c, t.pc)) =
      some (true, false, true, 0x2002) := by decide

theorem test_dec_3a :
    (ran 0x2000 [0x3A] [] { start with a := 0x00 }).map
      (fun t => (t.a, t.p.n, t.p.z, t.pc)) =
      some (0xFF, true, false, 0x2001) := by decide

theorem test_dew_c3_12 :
    (ran 0x2000 [0xC3, 0x12] [(0x0012, 0x00), (0x0013, 0x01)] start).map
      (fun t => (t.p.n, t.p.z, t.mem.read 0x0012, t.mem.read 0x0013, t.pc)) =
      some (false, false, 0xFF, 0x00, 0x2002) := by decide

theorem test_dex_ca :
    (ran 0x2000 [0xCA] [] { start with x := 0x00 }).map
      (fun t => (t.x, t.p.n, t.p.z, t.pc)) =
      some (0xFF, true, false, 0x2001) := by decide

theorem test_dey_88 :
    (ran 0x2000 [0x88] [] { start with y := 0x01 }).map
      (fun t => (t.y, t.p.n, t.p.z, t.pc)) =
      some (0x00, false, true, 0x2001) := by decide

theorem test_dez_3b :
    (ran 0x2000 [0x3B] [] { start with z := 0x80 }).map
      (fun t => (t.z, t.p.n, t.p.z, t.pc)) =
      some (0x7F, false, false, 0x2001) := by decide

theorem test_eor_49_ff :
    (ran 0x2000 [0x49, 0xFF] [] { start with a := 0xFF }).map
      (fun t => (t.a, t.p.n, t.p.z, t.pc)) =
      some (0x00, false, true, 0x2002) := by decide

theorem test_inc_fe_ff_30 :
    (ran 0x2000 [0xFE, 0xFF, 0x30] [(0x3100, 0xFF)] { start with x := 0x01 }).map
      (fun t => (t.p.n, t.p.z, t.mem.read 0x3100, t.pc)) =
      some (false, true, 0x00, 0x2003) := by decide

theorem test_inw_e3_12 :
    (ran 0x2000 [0xE3, 0x12] [(0x0012, 0xFF), (0x0013, 0x7F)] start).map
      (fun t => (t.p.n, t.p.z, t.mem.read 0x0012, t.mem.read 0x0013, t.pc)) =
      some (true, false, 0x00, 0x80, 0x2002) := by decide

theorem test_inx_e8 :
    (ran 0x2000 [0xE8] [] { start with x := 0xFF }).map
      (fun t => (t.x, t.p.n, t.p.z, t.pc)) =
      some (0x00, false, true, 0x2001) := by decide

theorem test_iny_c8 :
    (ran 0x2000 [0xC8] [] { start with y := 0x7F }).map
      (fun t => (t.y, t.p.n, t.p.z, t.pc)) =
      some (0x80, true, false, 0x2001) := by decide

theorem test_inz_1b :
    (ran 0x2000 [0x1B] [] { start with z := 0x10, y := 0x77 }).map
      (fun t => (t.z, t.p.n, t.p.z, t.pc)) =
      some (0x11, false, false, 0x2001) := by decide

theorem test_neg_42 :
    (ran 0x2000 [0x42] [] { start with a := 0x01 }).map
      (fun t => (t.a, t.p.n, t.p.z, t.pc)) =
      some (0xFF, true, false, 0x2001) := by decide

theorem test_neg_42_b :
    (ran 0x2000 [0x42] [] { start with a := 0x80 }).map
      (fun t => (t.a, t.p.n, t.p.z, t.pc)) =
      some (0x80, true, false, 0x2001) := by decide

theorem test_ora_09_80 :
    (ran 0x2000 [0x09, 0x80] [] { start with a := 0x0F }).map
      (fun t => (t.a, t.p.n, t.p.z, t.pc)) =
      some (0x8F, true, false, 0x2002) := by decide

theorem test_ora_01_20 :
    (ran 0x2000 [0x01, 0x20] [(0x0022, 0x00), (0x0023, 0x40), (0x4000, 0x00)] { start with a := 0x00, x := 0x02 }).map
      (fun t => (t.a, t.p.n, t.p.z, t.pc)) =
      some (0x00, false, true, 0x2002) := by decide

theorem test_sbc_e9_f0 :
    (ran 0x2000 [0xE9, 0xF0] [] { start with a := 0x50, p := { start.p with c := true } }).map
      (fun t => ((t.a, t.p.n, t.p.v, t.p.z, t.p.c), t.pc)) =
      some ((0x60, false, false, false, false), 0x2002) := by decide

theorem test_sbc_e5_10 :
    (ran 0x2000 [0xE5, 0x10] [(0x0010, 0x00)] { start with a := 0x80, p := { start.p with c := false } }).map
      (fun t => ((t.a, t.p.n, t.p.v, t.p.z, t.p.c), t.pc)) =
      some ((0x7F, false, true, false, true), 0x2002) := by decide

theorem test_asl_0a :
    (ran 0x2000 [0x0A] [] { start with a := 0x81 }).map
      (fun t => (t.a, t.p.n, t.p.z, t.p.c, t.pc)) =
      some (0x02, false, false, true, 0x2001) := by decide

theorem test_asl_16_10 :
    (ran 0x2000 [0x16, 0x10] [(0x0011, 0x40)] { start with x := 0x01 }).map
      (fun t => (t.p.n, t.p.z, t.p.c, t.mem.read 0x0011, t.pc)) =
      some (true, false, false, 0x80, 0x2002) := by decide

theorem test_asr_43 :
    (ran 0x2000 [0x43] [] { start with a := 0x81 }).map
      (fun t => (t.a, t.p.n, t.p.z, t.p.c, t.pc)) =
      some (0xC0, true, false, true, 0x2001) := by decide

theorem test_asr_44_10 :
    (ran 0x2000 [0x44, 0x10] [(0x0010, 0x01)] start).map
      (fun t => (t.p.n, t.p.z, t.p.c, t.mem.read 0x0010, t.pc)) =
      some (false, true, true, 0x00, 0x2002) := by decide

theorem test_asw_cb_34_12 :
    (ran 0x2000 [0xCB, 0x34, 0x12] [(0x1234, 0x87), (0x1235, 0xA9)] start).map
      (fun t => ((t.p.n, t.p.z, t.p.c, t.mem.read 0x1234, t.mem.read 0x1235), t.pc)) =
      some ((false, false, true, 0x0E, 0x53), 0x2003) := by decide

theorem test_lsr_4a :
    (ran 0x2000 [0x4A] [] { start with a := 0x81, p := { start.p with n := true } }).map
      (fun t => (t.a, t.p.n, t.p.z, t.p.c, t.pc)) =
      some (0x40, false, false, true, 0x2001) := by decide

theorem test_rol_2a :
    (ran 0x2000 [0x2A] [] { start with a := 0x80, p := { start.p with c := true } }).map
      (fun t => (t.a, t.p.n, t.p.z, t.p.c, t.pc)) =
      some (0x01, false, false, true, 0x2001) := by decide

theorem test_ror_66_10 :
    (ran 0x2000 [0x66, 0x10] [(0x0010, 0x02)] { start with p := { start.p with c := true } }).map
      (fun t => (t.p.n, t.p.z, t.p.c, t.mem.read 0x0010, t.pc)) =
      some (true, false, false, 0x81, 0x2002) := by decide

theorem test_row_eb_00_30 :
    (ran 0x2000 [0xEB, 0x00, 0x30] [(0x3000, 0x80), (0x3001, 0x40)] { start with p := { start.p with c := true } }).map
      (fun t => ((t.p.n, t.p.z, t.p.c, t.mem.read 0x3000, t.mem.read 0x3001), t.pc)) =
      some ((true, false, false, 0x01, 0x81), 0x2003) := by decide

theorem test_rmb0_07_10 :
    (ran 0x2000 [0x07, 0x10] [(0x0010, 0xFF)] start).map
      (fun t => (t.mem.read 0x0010, t.pc)) =
      some (0xFE, 0x2002) := by decide

theorem test_rmb7_77_10 :
    (ran 0x2000 [0x77, 0x10] [(0x0010, 0xFF)] start).map
      (fun t => (t.mem.read 0x0010, t.pc)) =
      some (0x7F, 0x2002) := by decide

theorem test_smb0_87_10 :
    (ran 0x2000 [0x87, 0x10] [(0x3010, 0x00)] { start with b := 0x30 }).map
      (fun t => (t.mem.read 0x3010, t.pc)) =
      some (0x01, 0x2002) := by decide

theorem test_smb7_f7_10 :
    (ran 0x2000 [0xF7, 0x10] [(0x3010, 0x00)] { start with b := 0x30 }).map
      (fun t => (t.mem.read 0x3010, t.pc)) =
      some (0x80, 0x2002) := by decide

theorem test_trb_14_10 :
    (ran 0x2000 [0x14, 0x10] [(0x0010, 0x3C)] { start with a := 0x0F }).map
      (fun t => (t.p.z, t.mem.read 0x0010, t.pc)) =
      some (false, 0x30, 0x2002) := by decide

theorem test_tsb_0c_00_30 :
    (ran 0x2000 [0x0C, 0x00, 0x30] [(0x3000, 0x00)] { start with a := 0x01 }).map
      (fun t => (t.p.z, t.mem.read 0x3000, t.pc)) =
      some (true, 0x01, 0x2003) := by decide

theorem test_tsb_0c_00_30_b :
    (ran 0x2000 [0x0C, 0x00, 0x30] [(0x3000, 0x01)] { start with a := 0x01 }).map
      (fun t => (t.p.z, t.mem.read 0x3000, t.pc)) =
      some (false, 0x01, 0x2003) := by decide

theorem test_bbr0_0f_10_05 :
    (ran 0x2000 [0x0F, 0x10, 0x05] [(0x0010, 0xFE)] start).map
      (fun t => t.pc) =
      some 0x2008 := by decide

theorem test_bbr7_7f_10_05 :
    (ran 0x2000 [0x7F, 0x10, 0x05] [(0x0010, 0x7F)] start).map
      (fun t => t.pc) =
      some 0x2008 := by decide

theorem test_bbs0_8f_10_fb :
    (ran 0x2000 [0x8F, 0x10, 0xFB] [(0x3010, 0x01)] { start with b := 0x30 }).map
      (fun t => t.pc) =
      some 0x1FFE := by decide

theorem test_bbs7_ff_10_fb :
    (ran 0x2000 [0xFF, 0x10, 0xFB] [(0x3010, 0x80)] { start with b := 0x30 }).map
      (fun t => t.pc) =
      some 0x1FFE := by decide

theorem test_bcc_90_10 :
    (ran 0x2000 [0x90, 0x10] [] { start with p := { start.p with c := false } }).map
      (fun t => t.pc) =
      some 0x2012 := by decide

theorem test_bcs_b0_10 :
    (ran 0x2000 [0xB0, 0x10] [] { start with p := { start.p with c := true } }).map
      (fun t => t.pc) =
      some 0x2012 := by decide

theorem test_beq_f0_10 :
    (ran 0x2000 [0xF0, 0x10] [] { start with p := { start.p with z := true } }).map
      (fun t => t.pc) =
      some 0x2012 := by decide

theorem test_beq_f0_10_b :
    (ran 0x2000 [0xF0, 0x10] [] { start with p := { start.p with z := false } }).map
      (fun t => t.pc) =
      some 0x2002 := by decide

theorem test_bmi_30_10 :
    (ran 0x2000 [0x30, 0x10] [] { start with p := { start.p with n := true } }).map
      (fun t => t.pc) =
      some 0x2012 := by decide

theorem test_bne_d0_10 :
    (ran 0x2000 [0xD0, 0x10] [] { start with p := { start.p with z := false } }).map
      (fun t => t.pc) =
      some 0x2012 := by decide

theorem test_bpl_10_10 :
    (ran 0x2000 [0x10, 0x10] [] { start with p := { start.p with n := false } }).map
      (fun t => t.pc) =
      some 0x2012 := by decide

theorem test_bra_80_10 :
    (ran 0x2000 [0x80, 0x10] [] start).map
      (fun t => t.pc) =
      some 0x2012 := by decide

theorem test_bra_83_fd_ff :
    (ran 0x2000 [0x83, 0xFD, 0xFF] [] start).map
      (fun t => t.pc) =
      some 0x1FFF := by decide

theorem test_bsr_63_0e_00 :
    (ran 0x2000 [0x63, 0x0E, 0x00] [] start).map
      (fun t => (t.spl, t.mem.read 0x01FF, t.mem.read 0x01FE, t.pc)) =
      some (0xFD, 0x20, 0x02, 0x2010) := by decide

theorem test_bvc_50_10 :
    (ran 0x2000 [0x50, 0x10] [] { start with p := { start.p with v := false } }).map
      (fun t => t.pc) =
      some 0x2012 := by decide

theorem test_bvs_70_10 :
    (ran 0x2000 [0x70, 0x10] [] { start with p := { start.p with v := true } }).map
      (fun t => t.pc) =
      some 0x2012 := by decide

theorem test_jmp_4c_34_12 :
    (ran 0x2000 [0x4C, 0x34, 0x12] [] start).map
      (fun t => t.pc) =
      some 0x1234 := by decide

theorem test_jmp_6c_ff_12 :
    (ran 0x2000 [0x6C, 0xFF, 0x12] [(0x12FF, 0x78), (0x1300, 0x56), (0x1200, 0x99)] start).map
      (fun t => t.pc) =
      some 0x5678 := by decide

theorem test_jsr_20_00_30 :
    (ran 0x2000 [0x20, 0x00, 0x30] [] start).map
      (fun t => (t.spl, t.mem.read 0x01FF, t.mem.read 0x01FE, t.pc)) =
      some (0xFD, 0x20, 0x02, 0x3000) := by decide

theorem test_jsr_23_00_40 :
    (ran 0x20FE [0x23, 0x00, 0x40] [(0x4002, 0x00), (0x4003, 0x50)] { start with x := 0x02 }).map
      (fun t => (t.spl, t.mem.read 0x01FF, t.mem.read 0x01FE, t.pc)) =
      some (0xFD, 0x21, 0x00, 0x5000) := by decide

theorem test_rts_60 :
    (ran 0x3000 [0x60] [(0x01FE, 0x02), (0x01FF, 0x20)] { start with spl := 0xFD }).map
      (fun t => (t.spl, t.pc)) =
      some (0xFF, 0x2003) := by decide

theorem test_rts_62_02 :
    (ran 0x3000 [0x62, 0x02] [(0x01FC, 0xAA), (0x01FD, 0xBB), (0x01FE, 0x02), (0x01FF, 0x20)] { start with spl := 0xFB }).map
      (fun t => (t.spl, t.pc)) =
      some (0xFF, 0x2003) := by decide

theorem test_pha_48 :
    (ran 0x2000 [0x48] [] { start with a := 0x5A }).map
      (fun t => (t.spl, t.mem.read 0x01FF, t.pc)) =
      some (0xFE, 0x5A, 0x2001) := by decide

theorem test_pha_48_b :
    (ran 0x2000 [0x48] [] { start with a := 0x5A, spl := 0x00, sph := 0x03 }).map
      (fun t => (t.sph, t.spl, t.mem.read 0x0300, t.pc)) =
      some (0x03, 0xFF, 0x5A, 0x2001) := by decide

theorem test_php_08 :
    (ran 0x2000 [0x08] [] { start with p := { start.p with c := true, n := true } }).map
      (fun t => (t.spl, t.mem.read 0x01FF, t.pc)) =
      some (0xFE, 0xB5, 0x2001) := by decide

theorem test_php_08_b :
    (ran 0x2000 [0x08] [] { start with sph := 0x01, p := { start.p with e := false, i := false, z := true } }).map
      (fun t => (t.spl, t.mem.read 0x01FF, t.pc)) =
      some (0xFE, 0x12, 0x2001) := by decide

theorem test_phw_f4_34_12 :
    (ran 0x2000 [0xF4, 0x34, 0x12] [] start).map
      (fun t => (t.spl, t.mem.read 0x01FF, t.mem.read 0x01FE, t.pc)) =
      some (0xFD, 0x12, 0x34, 0x2003) := by decide

theorem test_phw_fc_00_30 :
    (ran 0x2000 [0xFC, 0x00, 0x30] [(0x3000, 0xCD), (0x3001, 0xAB)] start).map
      (fun t => (t.spl, t.mem.read 0x01FF, t.mem.read 0x01FE, t.pc)) =
      some (0xFD, 0xAB, 0xCD, 0x2003) := by decide

theorem test_phx_da :
    (ran 0x2000 [0xDA] [] { start with x := 0x5A }).map
      (fun t => (t.spl, t.mem.read 0x01FF, t.pc)) =
      some (0xFE, 0x5A, 0x2001) := by decide

theorem test_phy_5a :
    (ran 0x2000 [0x5A] [] { start with y := 0x5A }).map
      (fun t => (t.spl, t.mem.read 0x01FF, t.pc)) =
      some (0xFE, 0x5A, 0x2001) := by decide

theorem test_phz_db :
    (ran 0x2000 [0xDB] [] { start with z := 0x5A }).map
      (fun t => (t.spl, t.mem.read 0x01FF, t.pc)) =
      some (0xFE, 0x5A, 0x2001) := by decide

theorem test_pla_68 :
    (ran 0x2000 [0x68] [(0x01FF, 0x80)] { start with spl := 0xFE }).map
      (fun t => (t.a, t.spl, t.p.n, t.p.z, t.pc)) =
      some (0x80, 0xFF, true, false, 0x2001) := by decide

theorem test_pla_68_b :
    (ran 0x2000 [0x68] [] { start with spl := 0xFF, sph := 0x01, a := 0x11 }).map
      (fun t => ((t.a, t.sph, t.spl, t.p.n, t.p.z), t.pc)) =
      some ((0x00, 0x01, 0x00, false, true), 0x2001) := by decide

theorem test_plp_28 :
    (ran 0x2000 [0x28] [(0x01FF, 0xC3)] { start with spl := 0xFE }).map
      (fun t => ((t.spl, t.p.n, t.p.v, t.p.e, t.p.d), (t.p.i, t.p.z, t.p.c, t.pc))) =
      some ((0xFF, true, true, true, false), (false, true, true, 0x2001)) := by decide

theorem test_plp_28_b :
    (ran 0x2000 [0x28] [(0x01FF, 0x3C)] { start with spl := 0xFE, p := { start.p with e := false } }).map
      (fun t => ((t.spl, t.p.n, t.p.v, t.p.e, t.p.d), (t.p.i, t.p.z, t.p.c, t.pc))) =
      some ((0xFF, false, false, false, true), (true, false, false, 0x2001)) := by decide

theorem test_plx_fa :
    (ran 0x2000 [0xFA] [(0x01FF, 0x80)] { start with spl := 0xFE }).map
      (fun t => (t.x, t.spl, t.p.n, t.p.z, t.pc)) =
      some (0x80, 0xFF, true, false, 0x2001) := by decide

theorem test_ply_7a :
    (ran 0x2000 [0x7A] [(0x01FF, 0x80)] { start with spl := 0xFE }).map
      (fun t => (t.y, t.spl, t.p.n, t.p.z, t.pc)) =
      some (0x80, 0xFF, true, false, 0x2001) := by decide

theorem test_plz_fb :
    (ran 0x2000 [0xFB] [(0x01FF, 0x80)] { start with spl := 0xFE }).map
      (fun t => (t.z, t.spl, t.p.n, t.p.z, t.pc)) =
      some (0x80, 0xFF, true, false, 0x2001) := by decide

theorem test_clc_18 :
    (ran 0x2000 [0x18] [] { start with p := { start.p with c := true } }).map
      (fun t => (t.p.c, t.pc)) =
      some (false, 0x2001) := by decide

theorem test_cld_d8 :
    (ran 0x2000 [0xD8] [] { start with p := { start.p with d := true } }).map
      (fun t => (t.p.d, t.pc)) =
      some (false, 0x2001) := by decide

theorem test_cle_02 :
    (ran 0x2000 [0x02] [] { start with p := { start.p with e := true } }).map
      (fun t => (t.p.e, t.pc)) =
      some (false, 0x2001) := by decide

theorem test_cli_58 :
    (ran 0x2000 [0x58] [] { start with p := { start.p with i := true } }).map
      (fun t => (t.p.i, t.pc)) =
      some (false, 0x2001) := by decide

theorem test_clv_b8 :
    (ran 0x2000 [0xB8] [] { start with p := { start.p with v := true } }).map
      (fun t => (t.p.v, t.pc)) =
      some (false, 0x2001) := by decide

theorem test_sec_38 :
    (ran 0x2000 [0x38] [] { start with p := { start.p with c := false } }).map
      (fun t => (t.p.c, t.pc)) =
      some (true, 0x2001) := by decide

theorem test_sed_f8 :
    (ran 0x2000 [0xF8] [] { start with p := { start.p with d := false } }).map
      (fun t => (t.p.d, t.pc)) =
      some (true, 0x2001) := by decide

theorem test_see_03 :
    (ran 0x2000 [0x03] [] { start with p := { start.p with e := false } }).map
      (fun t => (t.p.e, t.pc)) =
      some (true, 0x2001) := by decide

theorem test_sei_78 :
    (ran 0x2000 [0x78] [] { start with p := { start.p with i := false } }).map
      (fun t => (t.p.i, t.pc)) =
      some (true, 0x2001) := by decide

theorem test_brk_00 :
    (ran 0x2000 [0x00] [(0xFFFE, 0x00), (0xFFFF, 0x90)] { start with p := { start.p with i := false, c := true } }).map
      (fun t => ((t.spl, t.p.i, t.mem.read 0x01FF, t.mem.read 0x01FE, t.mem.read 0x01FD), t.pc)) =
      some ((0xFC, true, 0x20, 0x02, 0x31), 0x9000) := by decide

theorem test_rti_40 :
    (ran 0x9000 [0x40] [(0x01FD, 0x31), (0x01FE, 0x02), (0x01FF, 0x20)] { start with spl := 0xFC, p := { start.p with i := true } }).map
      (fun t => ((t.spl, t.p.n, t.p.v, t.p.e, t.p.d), (t.p.i, t.p.z, t.p.c, t.pc))) =
      some ((0xFF, false, false, true, false), (false, false, true, 0x2002)) := by decide

theorem test_map_5c :
    (ran 0x2000 [0x5C] [] start).map
      (fun t => t.pc) =
      some 0x2001 := by decide

/-- `TAB` writes no flag, and the next base-page access is in the new page (R208). -/
theorem test_tab : (ran 0x2000 [0x5B] [] { start with a := 0x20 }).map
    (fun t => (t.b, t.bpAddr 0x10, t.p.z, t.pc)) = some (0x20, 0x2010, false, 0x2001) := by decide

/-- `TYS`, then `PHA` at the new pointer lands in page `$30` (R218). -/
theorem test_tys : (ran 0x2000 [0x2B] [] { start with y := 0x30, sph := 0x01, spl := 0xFF }).map
    (fun t => (t.sph, t.spl, t.sp, t.pc)) = some (0x30, 0xFF, 0x30FF, 0x2001) := by decide

/-- `EOM` clears the inhibition and arms the prefix (R447). -/
theorem test_eom : (ran 0x2000 [0xEA] [] { start with mapInhibit := true }).map
    (fun t => (t.mapInhibit, t.eomPrefix, t.pc)) = some (false, true, 0x2001) := by decide

/-- After `EOM`, `LDA ($10),Z` follows the 32-bit pointer `$0FF80000` (R447's first example, second step). -/
theorem test_lda_indz_prefixed :
    (ran 0x2001 [0xB2, 0x10] [(0x12, 0xF8), (0x13, 0x0F), (0x0FF80002, 0x99)]
      { start with z := 0x02, eomPrefix := true }).map
      (fun t => (t.a, t.p.n, t.p.z, t.eomPrefix, t.pc)) = some (0x99, true, false, false, 0x2003) := by decide

/-- Any other instruction spends the prefix (R447's second example, second step). -/
theorem test_prefix_is_spent :
    (ran 0x2001 [0xA9, 0x00] [] { start with eomPrefix := true }).map (fun t => t.eomPrefix) = some false := by decide

/-- Decimal `ADC`: `$58 + $46` is `$04` with carry; V is a draw (R242). -/
theorem test_adc_decimal :
    (ran 0x2000 [0x69, 0x46] [] { start with a := 0x58, p := { start.p with d := true } }).map
      (fun t => (t.a, t.p.n, t.p.z, t.p.c, t.draws)) = some (0x04, false, false, true, 1) := by decide

/-- Decimal `SBC`: `$00 - $01` is `$99` with a borrow (R281). -/
theorem test_sbc_decimal :
    (ran 0x2000 [0xE9, 0x01] [] { start with p := { start.p with d := true, c := true } }).map
      (fun t => (t.a, t.p.n, t.p.z, t.p.c)) = some (0x99, true, false, false) := by decide

/-- `MAP` latches the four registers and the very next fetch goes through the new map: block 1 moved by `$18000`
makes `$2001` the flat address `$1A001` (R446, R563; G4). -/
theorem test_map : (ran 0x2000 [0x5C] [] { start with a := 0x80, x := 0x21 }).map
    (fun t => (t.mapState, t.mapInhibit, t.progCell .fetch t.pc)) =
      some (.c65 0x80 0x21 0x00 0x00, true, 0x1A001) := by decide

/-! ### Interrupts and reset (`60_`, `70_`) -/

/-- Vector V60: an IRQ enters through `$FFFE` with the Break bit 0 and the address of the next instruction. -/
theorem test_irq_entry :
    (ran 0x2000 [0xEA] [(0xFFFE, 0x00), (0xFFFF, 0x90)]
      { start with p := { start.p with i := false }, inputs := [.signals true false] }).map
      (fun t => ((t.pc, t.spl, t.p.i, t.eomPrefix), t.mem.read 0x01FF, t.mem.read 0x01FE, t.mem.read 0x01FD)) =
      some ((0x9000, 0xFC, true, false), 0x20, 0x00, 0x20) := by decide

/-- With `P.I` 1 the instruction runs (R504). -/
theorem test_irq_masked :
    (ran 0x2000 [0xA9, 0x01] [] { start with inputs := [.signals true false] }).map (fun t => (t.a, t.pc)) =
      some (0x01, 0x2002) := by decide

/-- NMI goes before IRQ, through `$FFFA` (R507). -/
theorem test_nmi_before_irq :
    (ran 0x2000 [0xEA] [(0xFFFA, 0x34), (0xFFFB, 0x12)]
      { start with p := { start.p with i := false }, inputs := [.signals true true] }).map
      (fun t => (t.pc, t.nmiPending)) = some (0x1234, false) := by decide

/-- While MAP inhibits, an NMI stays pending (R504, R505). -/
theorem test_nmi_waits_for_eom :
    (ran 0x2000 [0xA9, 0x01] [] { start with mapInhibit := true, inputs := [.signals false true] }).map
      (fun t => (t.a, t.nmiPending)) = some (0x01, true) := by decide

/-- No interrupt is taken right after EOM (R506). -/
theorem test_no_interrupt_after_eom :
    (ran 0x2001 [0xA9, 0x01] [] { start with eomPrefix := true, nmiPending := true }).map
      (fun t => (t.a, t.nmiPending)) = some (0x01, true) := by decide

/-- Reset reads its vector and leaves memory alone (R560, R561). -/
theorem test_reset_event :
    (ran 0x2000 [0xEA] [(0xFFFC, 0x00), (0xFFFD, 0xE0)]
      { start with b := 0x12, inputs := [.reset { defaultResetState with a := 0x77 }] }).map
      (fun t => (t.pc, t.a, t.b, t.p.i, t.mem.read 0x2000)) = some (0xE000, 0x77, 0x00, true, 0xEA) := by decide

/-- An instruction of the opcode table placed where the step fetches it runs at the next step. -/
theorem test_with_fetch_word :
    (match step (start.withFetchWord 16 0x80A9) with | .next t => some (t.a, t.pc) | _ => none) =
      some (0x80, 0x0002) := by decide

/-- A run ends at its stop address (R11): `JMP $1234`, and the stop is `$1234`. -/
theorem test_run_until :
    (match runUntil 0x1234 5 (start.placeCode [0x4C, 0x34, 0x12] 0x0000) with | .next t => some t.pc | _ => none) =
      some 0x1234 := by decide

/-! ### The cycle footnotes, counted (R582) -/

/-- How many first bytes carry a footnote. -/
def carrying (n : CycleNote) : Nat :=
  (printedCyclesLow.filter fun c => match c with | some (_, l) => decide (n ∈ l) | none => false).length

set_option maxRecDepth 20000 in
theorem test_cycles_not_given : (printedCyclesLow.filter Option.isNone).length + (256 - printedCyclesLow.length) = 137 := by
  decide

set_option maxRecDepth 20000 in
theorem test_cycle_footnotes :
    [carrying .b, carrying .m, carrying .p, carrying .r, carrying .s] = [16, 4, 25, 69, 1] := by decide

/-! ### Witnesses: a state and operands that meet the hypotheses of each statement that has any -/

theorem witness_DecodingDropsNoByte : decode [0xB2, 0x10, 0xEA] = .ok (.ldaIndz 0x10, [0xEA]) := rfl

theorem witness_TheFirstByteFixesTheLength :
    decode [0x00] = .ok (.brk, []) ∧ decode [0x62, 0x02] = .ok (.rtsImm 0x02, []) ∧
      decode [0x0F, 0x10, 0x05] = .ok (.bbr0 0x10 0x05, []) := ⟨rfl, rfl, rfl⟩

/-- Nothing signalled; an IRQ masked; MAP inhibiting an NMI; EOM before an NMI: each runs the instruction. -/
theorem witness_StepRunsTheDecodedInstruction :
    let s := start.placeCode [0xA9, 0x80] 0x0000
    let m : State := { s with mapInhibit := true, inputs := [.signals true true] }
    let e : State := { s with eomPrefix := true, inputs := [.signals true true] }
    let q : State := { s with inputs := [.signals true false] }
    decode s.fetchCode = .ok (.ldaImm 0x80, []) ∧ s.currentInput = .signals false false ∧
      (q.currentInput = .signals true false ∧ q.p.i = true ∧ q.nmiPending = false) ∧
      (m.currentInput = .signals true true ∧ m.mapInhibit = true) ∧
      (e.currentInput = .signals true true ∧ e.eomPrefix = true ∧ e.params.eomPrefixInterruptible = false) ∧
      ∃ t, exec (.ldaImm 0x80) s = .next t :=
  ⟨rfl, rfl, ⟨rfl, rfl, rfl⟩, ⟨rfl, rfl⟩, ⟨rfl, rfl, rfl⟩, _, rfl⟩

/-- A state with something in memory, whose step writes memory. -/
theorem witness_EveryStepKeepsTheInvariant :
    let s := ({ start with a := 0x5A } : State).placeCode [0x48] 0x0000
    s.inv = true ∧ s.mem ≠ [] ∧ ∃ t, step s = .next t := ⟨by decide, by decide, _, rfl⟩

theorem witness_MemoriesThatReadTheSameAreTheSame :
    Memory.wf [(0x10, 0x01), (0xFFFFFFFF, 0x80)] = true ∧ Memory.wf [(0x11, 0x00)] = false ∧
      Memory.wf [(0x11, 0x01), (0x10, 0x01)] = false := by decide

theorem witness_NoStepChangesTheParameters : ∃ t, step start = .next t := ⟨_, rfl⟩

theorem witness_ResetEventSetsTheResetValues :
    ({ start with inputs := [.reset defaultResetState] } : State).currentInput = .reset defaultResetState := rfl

/-- An NMI signalled now, and one pending right after EOM with `EOM_PREFIX_INTERRUPTIBLE` true. -/
theorem witness_NmiIsTakenBeforeAnythingElse :
    let s : State := { start with inputs := [.signals true true] }
    let u : State := { start with
      nmiPending := true, eomPrefix := true, params := { defaultParams with eomPrefixInterruptible := true } }
    (s.currentInput = .signals true true ∧ (s.nmiPending || true) = true ∧ s.mapInhibit = false ∧
      s.eomPrefix = false) ∧
    (u.currentInput = .signals false false ∧ (u.nmiPending || false) = true ∧ u.mapInhibit = false ∧
      u.params.eomPrefixInterruptible = true) := by decide

theorem witness_IrqIsTakenWhenNothingMasksIt :
    let s : State := { start with p := { start.p with i := false }, inputs := [.signals true false] }
    let u : State := { s with eomPrefix := true, params := { defaultParams with eomPrefixInterruptible := true } }
    (s.currentInput = .signals true false ∧ s.nmiPending = false ∧ s.p.i = false ∧ s.mapInhibit = false ∧
      s.eomPrefix = false) ∧
    (u.currentInput = .signals true false ∧ u.nmiPending = false ∧ u.p.i = false ∧ u.mapInhibit = false ∧
      u.params.eomPrefixInterruptible = true) := by decide

/-- An NMI taken, one that arrives and is taken at once, and one that a reset drops. -/
theorem witness_AnNmiEventIsNotLost :
    let s : State := { start with nmiPending := true }
    let v : State := { start with inputs := [.signals false true] }
    let u : State := { s with inputs := [.reset defaultResetState] }
    s.nmiPending = true ∧ v.currentInput = .signals false true ∧ u.nmiPending = true ∧
      (∃ t, step s = .next t ∧ t.nmiPending = false) ∧ (∃ t, step v = .next t ∧ t.nmiPending = false) ∧
      (∃ t, step u = .next t ∧ t.nmiPending = false) :=
  ⟨rfl, rfl, rfl, ⟨_, rfl, rfl⟩, ⟨_, rfl, rfl⟩, ⟨_, rfl, rfl⟩⟩

/-- An EOM, another instruction, and an interrupt in front of an EOM. -/
theorem witness_TheEomMarkLastsOneStep :
    let s := start.placeCode [0xEA] 0x0000
    let u : State := { s with nmiPending := true }
    (s.currentInput = .signals false false ∧ ∃ t, step s = .next t ∧ t.eomPrefix = true) ∧
      (start.currentInput = .signals false false ∧ ∃ t, step start = .next t ∧ t.eomPrefix = false) ∧
      (u.currentInput = .signals false false ∧ ∃ t, step u = .next t ∧ t.eomPrefix = false) :=
  ⟨⟨rfl, _, rfl, rfl⟩, ⟨rfl, _, rfl, rfl⟩, ⟨rfl, _, rfl, rfl⟩⟩

/-- With the unmapped map every program address is its own location. -/
theorem start_cells (a b : Addr) : start.progCell .write a = start.progCell .read b ↔ a = b := by
  have key : ∀ (k : AccessKind) (a : Addr), start.progCell k a = a.toNat := fun k a => by
    have := a.isLt
    have h : start.progCell k a = (c65Translate 0 0 0 0 a).toNat % 2 ^ 32 := rfl
    rw [h, c65Translate]
    simp
    omega
  rw [key, key]
  exact ⟨BitVec.eq_of_toNat_eq, fun h => by rw [h]⟩

theorem witness_RtiUndoesBrk :
    (∀ a b : Addr, start.progCell .write a = start.progCell .read b ↔ a = b) ∧
      ∃ t, exec .brk start = .next t ∧ ∃ u, exec .rti t = .next u := ⟨start_cells, _, rfl, _, rfl⟩

theorem witness_RtsReturnsToTheInstructionAfterACall :
    (∀ a b : Addr, start.progCell .write a = start.progCell .read b ↔ a = b) ∧
      (∃ t, exec (.jsrAbs 0xFFFF) start = .next t ∧ ∃ u, exec .rts t = .next u) ∧
      (∃ t, exec (.jsrAbsind 0x00FF) start = .next t ∧ ∃ u, exec .rts t = .next u) ∧
      (∃ t, exec (.jsrAbsindx 0x0000) start = .next t ∧ ∃ u, exec .rts t = .next u) ∧
      (∃ t, exec (.bsr 0x8000) start = .next t ∧ ∃ u, exec .rts t = .next u) ∧
      ∃ t, exec (.phwImmw 0xFFFF) start = .next t ∧ ∃ u, exec .rts t = .next u :=
  ⟨start_cells, ⟨_, rfl, _, rfl⟩, ⟨_, rfl, _, rfl⟩, ⟨_, rfl, _, rfl⟩, ⟨_, rfl, _, rfl⟩, ⟨_, rfl, _, rfl⟩⟩

theorem witness_APullReturnsWhatWasPushed :
    (∀ a b : Addr, start.progCell .write a = start.progCell .read b ↔ a = b) ∧
      (∃ t, exec .pha start = .next t ∧ ∃ u, exec .pla t = .next u) ∧
      (∃ t, exec .phx start = .next t ∧ ∃ u, exec .plx t = .next u) ∧
      (∃ t, exec .phy start = .next t ∧ ∃ u, exec .ply t = .next u) ∧
      (∃ t, exec .phz start = .next t ∧ ∃ u, exec .plz t = .next u) ∧
      ∃ t, exec .php start = .next t ∧ ∃ u, exec .plp t = .next u :=
  ⟨start_cells, ⟨_, rfl, _, rfl⟩, ⟨_, rfl, _, rfl⟩, ⟨_, rfl, _, rfl⟩, ⟨_, rfl, _, rfl⟩, ⟨_, rfl, _, rfl⟩⟩

theorem witness_ControlStateHasFewWriters :
    (∃ t, exec .tab start = .next t) ∧ (∃ t, exec .map start = .next t) ∧ (∃ t, exec .eom start = .next t) ∧
      (∃ t, exec .see start = .next t) ∧ (∃ t, exec .cle start = .next t) ∧ ∃ t, exec .tax start = .next t :=
  ⟨⟨_, rfl⟩, ⟨_, rfl⟩, ⟨_, rfl⟩, ⟨_, rfl⟩, ⟨_, rfl⟩, _, rfl⟩

/-- Each of the four flags does change. -/
theorem witness_FlagsDAndIAndVAndCHaveFewWriters :
    (∃ t, exec .sed start = .next t ∧ t.p.d ≠ start.p.d) ∧ (∃ t, exec .cli start = .next t ∧ t.p.i ≠ start.p.i) ∧
      (∃ t, exec (.bitImm 0x40) start = .next t ∧ t.p.v ≠ start.p.v) ∧
      ∃ t, exec .sec start = .next t ∧ t.p.c ≠ start.p.c :=
  ⟨⟨_, rfl, by decide⟩, ⟨_, rfl, by decide⟩, ⟨_, rfl, by decide⟩, _, rfl, by decide⟩

/-- A push at the bottom of the page wraps within it. -/
theorem witness_TheStackStaysInItsPage :
    let s : State := { start with spl := 0x00 }
    s.p.e = true ∧ Instr.pha ≠ .tys ∧ ∃ t, exec .pha s = .next t ∧ t.sph = s.sph := ⟨rfl, by decide, _, rfl, rfl⟩

theorem witness_StackPointerMovesAsTheEFlagSays :
    start.p.e = true ∧ ({ start with p := { start.p with e := false } } : State).p.e = false := by decide

theorem witness_AdcAddsInBinary : start.p.d = false := rfl

theorem witness_SbcSubtractsInBinary : start.p.d = false := rfl

/-- Valid BCD at the ends of its range, and a byte that is not valid in either nibble. -/
theorem witness_AdcAddsInDecimal :
    let s : State := { start with a := 0x99, p := { start.p with d := true } }
    let valid (v : Byte) : Prop := v.toNat / 16 ≤ 9 ∧ v.toNat % 16 ≤ 9
    s.p.d = true ∧ (valid s.a ∧ valid 0x00) ∧ (valid s.a ∧ valid 0x99) ∧ ¬(valid s.a ∧ valid 0x0A) ∧
      ¬(valid s.a ∧ valid 0xA0) := by decide

theorem witness_SbcSubtractsInDecimal :
    let s : State := { start with a := 0x00, p := { start.p with d := true } }
    let valid (v : Byte) : Prop := v.toNat / 16 ≤ 9 ∧ v.toNat % 16 ≤ 9
    s.p.d = true ∧ (valid s.a ∧ valid 0x00) ∧ (valid s.a ∧ valid 0x99) ∧ ¬(valid s.a ∧ valid 0x0A) ∧
      ¬(valid s.a ∧ valid 0xA0) := by decide

end Sys2Proof.Tests
end

section
/-! The stack pointer as a number (`20_memory.md` rule R65): what `SpAdd(k)` makes of it for an integer `k`. -/
namespace Sys2Proof.Machine

/-- A byte moved by an integer, reduced modulo 65536 first, is the byte moved modulo 256: 256 divides 65536. -/
theorem add_loByte_ofInt (v : Byte) (k : Int) : v + loByte (BitVec.ofInt 16 k) = BitVec.ofInt 8 (v.toNat + k) := by
  apply BitVec.eq_of_toNat_eq
  simp only [BitVec.toNat_add, loByte_toNat, BitVec.toNat_ofInt]
  omega

/-- A 16-bit address moved by an integer, as a number. -/
theorem toNat_add_ofInt (a : Addr) (k : Int) : ((a + BitVec.ofInt 16 k).toNat : Int) = (a.toNat + k) % 65536 := by
  simp only [BitVec.toNat_add, BitVec.toNat_ofInt]
  omega

/-- `SP` is the number `SPH * 256 + SPL`. -/
theorem State.sp_toNat (s : State) : s.sp.toNat = s.sph.toNat * 256 + s.spl.toNat := wordOf_toNat _ _

/-- Settles O26: with `P.E` 1 the byte sum of `SPL`, with `P.E` 0 the 16-bit sum of `SPH:SPL`, each read as a
number; that nothing else changes is the frame of `SpAdd`. -/
theorem stackPointerMovesAsTheEFlagSays : Obligations.StackPointerMovesAsTheEFlagSays := by
  intro s k t
  refine ⟨fun he => ?_, fun he => ⟨?_, State.spAdd_frame s _⟩⟩
  · rw [← add_loByte_ofInt]
    exact State.spAdd_of_e he _
  · have hsp : t.sp = s.sp + BitVec.ofInt 16 k := by simp [t, State.spAdd_sp, he]
    rw [← State.sp_toNat t, ← State.sp_toNat s, hsp]
    exact toNat_add_ofInt s.sp k

end Sys2Proof.Machine
end

section
/-! Load, store and register transfer (`41_load_store_transfer.md` rules R200 to R219, without R213). -/
namespace Sys2Proof.Machine

/-! ### What the families' operations end in -/

/-- A state that moves past an instruction changes its program counter alone (R24). -/
theorem State.advance_eq (s : State) (len : Nat) :
    s.advance len = { s with pc := s.pc + BitVec.ofNat 16 len } := rfl

/-- `SetNZ(v)` and the move past the instruction: N and Z from `v`, the program counter, and nothing else (R9, R24). -/
theorem State.setNZ_advance_eq (s : State) (v : Byte) (len : Nat) :
    (s.setNZ v).advance len =
      { s with p := { s.p with n := v.getLsbD 7, z := v == 0 }, pc := s.pc + BitVec.ofNat 16 len } := rfl

/-- A store instruction changes the program counter and the memory, no flag among the rest (R204 to R207). -/
theorem storeTo_frame (m : MemForm) (v : Byte) (s : State) :
    storeTo m v s = { s with pc := s.pc + BitVec.ofNat 16 m.length, mem := (storeTo m v s).mem } := by
  rw [storeTo_eq]

/-- A store instruction writes one byte, at the place of its operand (R163). -/
theorem storeTo_wroteOnly (m : MemForm) (v : Byte) (s : State) :
    s.wroteOnly (storeTo m v s) [((m.place s).storeCell s, v)] :=
  State.wroteOnly_one _ _ (by rw [storeTo_eq])

/-! ### The statements -/

/-- Settles O31: each form is `storeTo` at its operand form, which moves PC and writes the one byte. -/
theorem storesWriteTheRegisterToTheOperand : Obligations.StoresWriteTheRegisterToTheOperand := by
  intro s stores
  have store (i : Instr) (m : MemForm) (v : Byte) (h : exec i s = .next (storeTo m v s)) :
      stores i m v (BitVec.ofNat 16 m.length) :=
    ⟨storeTo m v s, h, storeTo_frame m v s, storeTo_wroteOnly m v s⟩
  exact
    ⟨fun nn => store _ (.indx nn) s.a rfl, fun nn => store _ (.indspy nn) s.a rfl,
      fun nn => store _ (.bp nn) s.a rfl, fun nnnn => store _ (.abs nnnn) s.a rfl,
      fun nn => store _ (.indy nn) s.a rfl, fun nn => store _ (.indz nn) s.a rfl,
      fun nn => store _ (.bpx nn) s.a rfl, fun nnnn => store _ (.absy nnnn) s.a rfl,
      fun nnnn => store _ (.absx nnnn) s.a rfl, fun nn => store _ (.bp nn) s.x rfl,
      fun nnnn => store _ (.abs nnnn) s.x rfl, fun nn => store _ (.bpy nn) s.x rfl,
      fun nnnn => store _ (.absy nnnn) s.x rfl, fun nn => store _ (.bp nn) s.y rfl,
      fun nnnn => store _ (.absx nnnn) s.y rfl, fun nnnn => store _ (.abs nnnn) s.y rfl,
      fun nn => store _ (.bpx nn) s.y rfl, fun nn => store _ (.bp nn) s.z rfl,
      fun nn => store _ (.bpx nn) s.z rfl, fun nnnn => store _ (.abs nnnn) s.z rfl,
      fun nnnn => store _ (.absx nnnn) s.z rfl⟩

/-- Settles O30: each form is the load of its register from its source, whose next state the law of the family
gives field by field. -/
theorem loadsSetTheRegisterAndNAndZ : Obligations.LoadsSetTheRegisterAndNAndZ := by
  intro s flagsOf lda ldx ldy ldz
  have toA (i : Instr) (src : Source) (h : exec i s = .next (ldaFrom src s)) :
      lda i (src.load s) (BitVec.ofNat 16 src.length) := h.trans (congrArg _ (ldaFrom_eq src s))
  have toX (i : Instr) (src : Source) (h : exec i s = .next (ldxFrom src s)) :
      ldx i (src.load s) (BitVec.ofNat 16 src.length) := h.trans (congrArg _ (ldxFrom_eq src s))
  have toY (i : Instr) (src : Source) (h : exec i s = .next (ldyFrom src s)) :
      ldy i (src.load s) (BitVec.ofNat 16 src.length) := h.trans (congrArg _ (ldyFrom_eq src s))
  have toZ (i : Instr) (src : Source) (h : exec i s = .next (ldzFrom src s)) :
      ldz i (src.load s) (BitVec.ofNat 16 src.length) := h.trans (congrArg _ (ldzFrom_eq src s))
  exact
    ⟨fun nn => toA _ (.mem (.indx nn)) rfl, fun nn => toA _ (.mem (.bp nn)) rfl, fun nn => toA _ (.imm nn) rfl,
      fun nnnn => toA _ (.mem (.abs nnnn)) rfl, fun nn => toA _ (.mem (.indy nn)) rfl,
      fun nn => toA _ (.mem (.indz nn)) rfl, fun nn => toA _ (.mem (.bpx nn)) rfl,
      fun nnnn => toA _ (.mem (.absy nnnn)) rfl, fun nnnn => toA _ (.mem (.absx nnnn)) rfl,
      fun nn => toA _ (.mem (.indspy nn)) rfl,
      fun nn => toX _ (.imm nn) rfl, fun nn => toX _ (.mem (.bp nn)) rfl, fun nnnn => toX _ (.mem (.abs nnnn)) rfl,
      fun nn => toX _ (.mem (.bpy nn)) rfl, fun nnnn => toX _ (.mem (.absy nnnn)) rfl,
      fun nn => toY _ (.imm nn) rfl, fun nn => toY _ (.mem (.bp nn)) rfl, fun nnnn => toY _ (.mem (.abs nnnn)) rfl,
      fun nn => toY _ (.mem (.bpx nn)) rfl, fun nnnn => toY _ (.mem (.absx nnnn)) rfl,
      fun nn => toZ _ (.imm nn) rfl, fun nnnn => toZ _ (.mem (.abs nnnn)) rfl,
      fun nnnn => toZ _ (.mem (.absx nnnn)) rfl⟩

/-- Settles O32: each transfer is the copy, then `SetNZ` of the value copied where its rule has it, then the move
past one byte. -/
theorem transfersCopyARegister : Obligations.TransfersCopyARegister := by
  intro s flagsOf
  have silent (i : Instr) (t : State) (h : exec i s = .next (t.advance 1)) :
      exec i s = .next { t with pc := t.pc + 1 } := h.trans (congrArg _ (State.advance_eq t 1))
  have flagged (i : Instr) (t : State) (v : Byte) (h : exec i s = .next ((t.setNZ v).advance 1)) :
      exec i s = .next { t with p := { t.p with n := v.getLsbD 7, z := v == 0 }, pc := t.pc + 1 } :=
    h.trans (congrArg _ (State.setNZ_advance_eq t v 1))
  exact
    ⟨silent .tab (s.setB s.a) rfl, flagged .tax (s.setX s.a) s.a rfl, flagged .tay (s.setY s.a) s.a rfl,
      flagged .taz (s.setZ s.a) s.a rfl, flagged .tba (s.setA s.b) s.b rfl, flagged .tsy (s.setY s.sph) s.sph rfl,
      flagged .txa (s.setA s.x) s.x rfl, silent .txs (s.setSpl s.x) rfl, flagged .tya (s.setA s.y) s.y rfl,
      silent .tys (s.setSph s.y) rfl, flagged .tza (s.setA s.z) s.z rfl⟩

end Sys2Proof.Machine
end

section
/-! Arithmetic and logic on registers (`42_arithmetic_logic.md`): the forms of ADC and SBC with `P.D` 0, AND, EOR,
ORA, the compares, and the registers counted up and down. -/
namespace Sys2Proof.Machine

/-! ### Binary addition and subtraction as arithmetic (R241, R280) -/

/-- The bit `(a ^ r) & (m ^ r)` of V is 1 where the operands have one sign and the result the other (R241). -/
theorem overflowBit_eq_signs (a m r : Byte) :
    ((a ^^^ r) &&& (m ^^^ r)).getLsbD 7 =
      (a.getLsbD 7 == m.getLsbD 7 && r.getLsbD 7 != a.getLsbD 7) := by
  simp only [BitVec.getLsbD_and, BitVec.getLsbD_xor]
  generalize a.getLsbD 7 = sa, m.getLsbD 7 = sm, r.getLsbD 7 = sr
  revert sa sm sr
  decide

/-- Binary addition with its V stated by signs (R241). -/
theorem addBinary_eq (a m : Byte) (c : Bool) :
    addBinary a m c =
      let sum := a.toNat + m.toNat + c.toNat
      let r := BitVec.ofNat 8 sum
      { value := r, n := r.getLsbD 7, z := r == 0, c := decide (255 < sum)
        v := a.getLsbD 7 == m.getLsbD 7 && r.getLsbD 7 != a.getLsbD 7 } := by
  simp only [addBinary, overflowBit_eq_signs]

/-- Adding the complement of a byte is subtracting the byte and one more: the sums differ by 256. -/
theorem add_toNat_not_eq_sub_add (a m : Byte) (c : Bool) :
    ((a.toNat + (~~~m).toNat + c.toNat : Nat) : Int) = a.toNat - m.toNat - 1 + c.toNat + 256 := by
  rw [BitVec.toNat_not]
  omega

/-- An integer's byte is the one of the natural number 256 above it. -/
theorem ofNat_eq_ofInt_of_eq_add {n : Nat} {k : Int} (h : (n : Int) = k + 256) :
    BitVec.ofNat 8 n = BitVec.ofInt 8 k := by
  apply BitVec.eq_of_toNat_eq
  simp only [BitVec.toNat_ofNat, BitVec.toNat_ofInt]
  omega

/-- Binary subtraction over the integers, with its V stated by signs (R280): the addition of the complement has the
value of the difference, and its carry is the absence of a borrow. -/
theorem subBinary_eq (a m : Byte) (c : Bool) :
    subBinary a m c =
      let difference : Int := a.toNat - m.toNat - 1 + c.toNat
      let r := BitVec.ofInt 8 difference
      { value := r, n := r.getLsbD 7, z := r == 0, c := decide (0 ≤ difference)
        v := a.getLsbD 7 != m.getLsbD 7 && r.getLsbD 7 == m.getLsbD 7 } := by
  have hsum := add_toNat_not_eq_sub_add a m c
  have hcarry : 255 < a.toNat + (~~~m).toNat + c.toNat ↔ (0 : Int) ≤ a.toNat - m.toNat - 1 + c.toNat := by omega
  have hsigns (sa sm sr : Bool) : (sa == !sm && sr != sa) = (sa != sm && sr == sm) := by
    revert sa sm sr
    decide
  have hnot : (~~~m).getLsbD 7 = !m.getLsbD 7 := by simp
  simp only [subBinary, addBinary_eq, ofNat_eq_ofInt_of_eq_add hsum, hcarry, hnot, hsigns]

/-- The byte of the integer difference of two bytes is their difference as bytes. -/
theorem ofInt_toNat_sub (r m : Byte) : BitVec.ofInt 8 ((r.toNat : Int) - m.toNat) = r - m := by
  apply BitVec.eq_of_toNat_eq
  simp only [BitVec.toNat_sub, BitVec.toNat_ofInt]
  omega

/-! ### What the families' operations do, by arithmetic -/

/-- A binary operation makes no draw (log entry 7). -/
theorem drawsAfter_of_binary {s : State} (hd : s.p.d = false) (m : Byte) : drawsAfter m s = s.draws := by
  simp [drawsAfter, hd]

theorem adcOutcome_of_binary {s : State} (hd : s.p.d = false) (m : Byte) :
    adcOutcome m s = addBinary s.a m s.p.c := by
  simp [adcOutcome, hd]

theorem sbcOutcome_of_binary {s : State} (hd : s.p.d = false) (m : Byte) :
    sbcOutcome m s = subBinary s.a m s.p.c := by
  simp [sbcOutcome, hd]

/-- With `P.D` 0, ADC changes A, the four flags of an outcome and the program counter (R241). -/
theorem adcWith_of_binary {s : State} (hd : s.p.d = false) (src : Source) :
    adcWith src s =
      { s with
        a := (addBinary s.a (src.load s) s.p.c).value, p := s.p.setAlu (addBinary s.a (src.load s) s.p.c)
        pc := s.pc + BitVec.ofNat 16 src.length } := by
  rw [adcWith_eq, adcOutcome_of_binary hd, drawsAfter_of_binary hd]

/-- With `P.D` 0, SBC changes A, the four flags of an outcome and the program counter (R280). -/
theorem sbcWith_of_binary {s : State} (hd : s.p.d = false) (src : Source) :
    sbcWith src s =
      { s with
        a := (subBinary s.a (src.load s) s.p.c).value, p := s.p.setAlu (subBinary s.a (src.load s) s.p.c)
        pc := s.pc + BitVec.ofNat 16 src.length } := by
  rw [sbcWith_eq, sbcOutcome_of_binary hd, drawsAfter_of_binary hd]

/-- The flags of a compare, N from the difference over the integers (R245). -/
theorem PFlags.setCompare_eq (p : PFlags) (r m : Byte) :
    p.setCompare r m =
      { p with
        n := (BitVec.ofInt 8 ((r.toNat : Int) - m.toNat)).getLsbD 7, z := r == m
        c := decide (m.toNat ≤ r.toNat) } := by
  rw [ofInt_toNat_sub]
  rfl

/-! ### The statements -/

/-- Settles O34: each form is `adcWith` at its source, with `P.D` 0 the binary sum. -/
theorem adcAddsInBinary : Obligations.AdcAddsInBinary := by
  intro s hd adds
  have adc (i : Instr) (src : Source) (h : exec i s = .next (adcWith src s)) :
      adds i (src.load s) (BitVec.ofNat 16 src.length) := by
    have hnext := h.trans (congrArg _ (adcWith_of_binary hd src))
    rw [addBinary_eq] at hnext
    exact hnext
  exact
    ⟨fun nn => adc _ (.mem (.indx nn)) rfl, fun nn => adc _ (.mem (.bp nn)) rfl, fun nn => adc _ (.imm nn) rfl,
      fun nnnn => adc _ (.mem (.abs nnnn)) rfl, fun nn => adc _ (.mem (.indy nn)) rfl,
      fun nn => adc _ (.mem (.indz nn)) rfl, fun nn => adc _ (.mem (.bpx nn)) rfl,
      fun nnnn => adc _ (.mem (.absy nnnn)) rfl, fun nnnn => adc _ (.mem (.absx nnnn)) rfl⟩

/-- Settles O36: each form is `sbcWith` at its source, with `P.D` 0 the addition of the complement, which is the
difference over the integers. -/
theorem sbcSubtractsInBinary : Obligations.SbcSubtractsInBinary := by
  intro s hd subtracts
  have sbc (i : Instr) (src : Source) (h : exec i s = .next (sbcWith src s)) :
      subtracts i (src.load s) (BitVec.ofNat 16 src.length) := by
    have hnext := h.trans (congrArg _ (sbcWith_of_binary hd src))
    rw [subBinary_eq] at hnext
    exact hnext
  exact
    ⟨fun nn => sbc _ (.mem (.indx nn)) rfl, fun nn => sbc _ (.mem (.bp nn)) rfl, fun nn => sbc _ (.imm nn) rfl,
      fun nnnn => sbc _ (.mem (.abs nnnn)) rfl, fun nn => sbc _ (.mem (.indy nn)) rfl,
      fun nn => sbc _ (.mem (.indz nn)) rfl, fun nn => sbc _ (.mem (.bpx nn)) rfl,
      fun nnnn => sbc _ (.mem (.absy nnnn)) rfl, fun nnnn => sbc _ (.mem (.absx nnnn)) rfl⟩

/-- Settles O41: each form is `compareWith` of its register at its source, whose flags are those of the difference
over the integers. -/
theorem comparesSetNZAndC : Obligations.ComparesSetNZAndC := by
  intro s compares
  have cmp (i : Instr) (r : Byte) (src : Source) (h : exec i s = .next (compareWith r src s)) :
      compares i r (src.load s) (BitVec.ofNat 16 src.length) := by
    rw [compareWith_eq, PFlags.setCompare_eq] at h
    exact h
  exact
    ⟨fun nn => cmp _ s.a (.mem (.indx nn)) rfl, fun nn => cmp _ s.a (.mem (.bp nn)) rfl,
      fun nn => cmp _ s.a (.imm nn) rfl, fun nnnn => cmp _ s.a (.mem (.abs nnnn)) rfl,
      fun nn => cmp _ s.a (.mem (.indy nn)) rfl, fun nn => cmp _ s.a (.mem (.indz nn)) rfl,
      fun nn => cmp _ s.a (.mem (.bpx nn)) rfl, fun nnnn => cmp _ s.a (.mem (.absy nnnn)) rfl,
      fun nnnn => cmp _ s.a (.mem (.absx nnnn)) rfl,
      fun nn => cmp _ s.x (.imm nn) rfl, fun nn => cmp _ s.x (.mem (.bp nn)) rfl,
      fun nnnn => cmp _ s.x (.mem (.abs nnnn)) rfl,
      fun nn => cmp _ s.y (.imm nn) rfl, fun nn => cmp _ s.y (.mem (.bp nn)) rfl,
      fun nnnn => cmp _ s.y (.mem (.abs nnnn)) rfl,
      fun nn => cmp _ s.z (.imm nn) rfl, fun nn => cmp _ s.z (.mem (.bp nn)) rfl,
      fun nnnn => cmp _ s.z (.mem (.abs nnnn)) rfl⟩

/-- Settles O39: each form is `logicWith` of its operation at its source. -/
theorem logicCombinesAWithTheOperand : Obligations.LogicCombinesAWithTheOperand := by
  intro s becomes
  have logic (op : Byte → Byte → Byte) (i : Instr) (src : Source) (h : exec i s = .next (logicWith op src s)) :
      becomes i (op s.a (src.load s)) (BitVec.ofNat 16 src.length) := h.trans (congrArg _ (logicWith_eq op src s))
  have and := logic (· &&& ·)
  have eor := logic (· ^^^ ·)
  have ora := logic (· ||| ·)
  exact
    ⟨fun nn => and _ (.mem (.indx nn)) rfl, fun nn => and _ (.mem (.bp nn)) rfl, fun nn => and _ (.imm nn) rfl,
      fun nnnn => and _ (.mem (.abs nnnn)) rfl, fun nn => and _ (.mem (.indy nn)) rfl,
      fun nn => and _ (.mem (.indz nn)) rfl, fun nn => and _ (.mem (.bpx nn)) rfl,
      fun nnnn => and _ (.mem (.absy nnnn)) rfl, fun nnnn => and _ (.mem (.absx nnnn)) rfl,
      fun nn => eor _ (.mem (.indx nn)) rfl, fun nn => eor _ (.mem (.bp nn)) rfl, fun nn => eor _ (.imm nn) rfl,
      fun nnnn => eor _ (.mem (.abs nnnn)) rfl, fun nn => eor _ (.mem (.indy nn)) rfl,
      fun nn => eor _ (.mem (.indz nn)) rfl, fun nn => eor _ (.mem (.bpx nn)) rfl,
      fun nnnn => eor _ (.mem (.absy nnnn)) rfl, fun nnnn => eor _ (.mem (.absx nnnn)) rfl,
      fun nn => ora _ (.mem (.indx nn)) rfl, fun nn => ora _ (.mem (.bp nn)) rfl, fun nn => ora _ (.imm nn) rfl,
      fun nnnn => ora _ (.mem (.abs nnnn)) rfl, fun nn => ora _ (.mem (.indy nn)) rfl,
      fun nn => ora _ (.mem (.indz nn)) rfl, fun nn => ora _ (.mem (.bpx nn)) rfl,
      fun nnnn => ora _ (.mem (.absy nnnn)) rfl, fun nnnn => ora _ (.mem (.absx nnnn)) rfl⟩

/-- Settles O42: INC A and DEC A are `modifyWith` on the accumulator; each other instruction sets its own register,
then `SetNZ` of the new value, then moves past one byte. -/
theorem registersCountUpAndDown : Obligations.RegistersCountUpAndDown := by
  intro s flagsOf
  have counts (i : Instr) (t : State) (v : Byte) (h : exec i s = .next ((t.setNZ v).advance 1)) :
      exec i s = .next { t with p := { t.p with n := v.getLsbD 7, z := v == 0 }, pc := t.pc + 1 } :=
    h.trans (congrArg _ (State.setNZ_advance_eq t v 1))
  have modifies (i : Instr) (op : Byte → Byte) (h : exec i s = .next (modifyWith op .acc s)) :
      exec i s = .next { s with a := op s.a, p := flagsOf (op s.a), pc := s.pc + 1 } :=
    h.trans (congrArg _ (modifyWith_acc op s))
  exact
    ⟨counts .inx (s.setX (s.x + 1)) (s.x + 1) rfl, counts .iny (s.setY (s.y + 1)) (s.y + 1) rfl,
      counts .inz (s.setZ (s.z + 1)) (s.z + 1) rfl, counts .dex (s.setX (s.x - 1)) (s.x - 1) rfl,
      counts .dey (s.setY (s.y - 1)) (s.y - 1) rfl, counts .dez (s.setZ (s.z - 1)) (s.z - 1) rfl,
      modifies .incAcc (· + 1) rfl, modifies .decAcc (· - 1) rfl, counts .neg (s.setA (-s.a)) (-s.a) rfl⟩

end Sys2Proof.Machine
end

section
/-! Bits of a byte of the base page (`43_shift_rotate_bit.md` rules R310 to R327): RMB and SMB. -/
namespace Sys2Proof.Machine

/-- A read-modify-write of a base-page byte changes the program counter and the memory, no flag among the rest
(R310 to R327). -/
theorem modifyBpByte_frame (op : Byte → Byte) (nn : Byte) (s : State) :
    modifyBpByte op nn s = { s with pc := s.pc + 2, mem := (modifyBpByte op nn s).mem } := by
  rw [modifyBpByte_eq]

/-- A read-modify-write of a base-page byte writes that one byte (R146). -/
theorem modifyBpByte_wroteOnly (op : Byte → Byte) (nn : Byte) (s : State) :
    s.wroteOnly (modifyBpByte op nn s) [(s.progCell .write (s.bpAddr nn), op (s.readByte (s.bpAddr nn)))] :=
  State.wroteOnly_one _ _ (by rw [modifyBpByte_eq])

/-- Settles O47: each instruction is `modifyBpByte` of the conjunction with its mask. -/
theorem rmbClearsOneBitOfABasePageByte : Obligations.RmbClearsOneBitOfABasePageByte := by
  intro s changes
  have clears (i : Instr) (mask nn : Byte) (h : exec i s = .next (modifyBpByte (· &&& mask) nn s)) :
      changes i nn (s.readByte (s.bpAddr nn) &&& mask) :=
    ⟨_, h, modifyBpByte_frame _ nn s, modifyBpByte_wroteOnly _ nn s⟩
  exact
    ⟨fun nn => clears (.rmb0 nn) 0xFE nn rfl, fun nn => clears (.rmb1 nn) 0xFD nn rfl,
      fun nn => clears (.rmb2 nn) 0xFB nn rfl, fun nn => clears (.rmb3 nn) 0xF7 nn rfl,
      fun nn => clears (.rmb4 nn) 0xEF nn rfl, fun nn => clears (.rmb5 nn) 0xDF nn rfl,
      fun nn => clears (.rmb6 nn) 0xBF nn rfl, fun nn => clears (.rmb7 nn) 0x7F nn rfl⟩

/-- Settles O48: each instruction is `modifyBpByte` of the disjunction with its mask. -/
theorem smbSetsOneBitOfABasePageByte : Obligations.SmbSetsOneBitOfABasePageByte := by
  intro s changes
  have sets (i : Instr) (mask nn : Byte) (h : exec i s = .next (modifyBpByte (· ||| mask) nn s)) :
      changes i nn (s.readByte (s.bpAddr nn) ||| mask) :=
    ⟨_, h, modifyBpByte_frame _ nn s, modifyBpByte_wroteOnly _ nn s⟩
  exact
    ⟨fun nn => sets (.smb0 nn) 0x01 nn rfl, fun nn => sets (.smb1 nn) 0x02 nn rfl,
      fun nn => sets (.smb2 nn) 0x04 nn rfl, fun nn => sets (.smb3 nn) 0x08 nn rfl,
      fun nn => sets (.smb4 nn) 0x10 nn rfl, fun nn => sets (.smb5 nn) 0x20 nn rfl,
      fun nn => sets (.smb6 nn) 0x40 nn rfl, fun nn => sets (.smb7 nn) 0x80 nn rfl⟩

end Sys2Proof.Machine
end

section
/-! Branches on a bit of the base page, and jumps (`44_branch_jump.md` rules R350 to R367 and R381). -/
namespace Sys2Proof.Machine

/-! ### The targets as numbers (R159 to R161, R158) -/

/-- An address moved by a sign-extended byte is the byte's signed value added to the address as a number (R9). -/
theorem add_sext16_eq_ofInt (a : Addr) (rr : Byte) : a + sext16 rr = BitVec.ofInt 16 (a.toNat + rr.toInt) :=
  calc a + sext16 rr
    _ = BitVec.ofInt 16 a.toNat + BitVec.ofInt 16 rr.toInt := by
      rw [BitVec.ofInt_natCast, BitVec.ofNat_toNat, BitVec.setWidth_eq]; rfl
    _ = BitVec.ofInt 16 (a.toNat + rr.toInt) := (BitVec.ofInt_add ..).symm

/-- An address counts modulo 65536 as a term of an integer sum. -/
theorem ofInt_toNat_add (a k : Addr) (d : Int) :
    BitVec.ofInt 16 ((a + k).toNat + d) = BitVec.ofInt 16 (a.toNat + k.toNat + d) := by
  apply BitVec.eq_of_toNat_eq
  simp only [BitVec.toNat_add, BitVec.toNat_ofInt]
  omega

/-- The target of BBRn and BBSn: the signed displacement counts from the address plus 3 (R161, D13). -/
theorem bprelTarget_eq_ofInt (pc0 : Addr) (rr : Byte) :
    bprelTarget pc0 rr = BitVec.ofInt 16 (pc0.toNat + 3 + rr.toInt) :=
  (add_sext16_eq_ofInt (pc0 + 3) rr).trans (ofInt_toNat_add pc0 3 rr.toInt)

/-- An address moved by an unsigned byte is the sum of the two numbers, modulo 65536 (D10). -/
theorem add_zext16_eq_ofNat (a : Addr) (v : Byte) : a + zext16 v = BitVec.ofNat 16 (a.toNat + v.toNat) := by
  rw [BitVec.ofNat_add, BitVec.ofNat_toNat, BitVec.ofNat_toNat, BitVec.setWidth_eq]; rfl

/-! ### The statements -/

/-- BBRn and BBSn with the target as a number; the program counter changes alone (R350 to R367). -/
theorem branchOnBit_eq_ofInt (n : Nat) (taken : Bool) (nn rr : Byte) (s : State) :
    branchOnBit n taken nn rr s =
      { s with
        pc := if (s.readByte (s.bpAddr nn)).getLsbD n = taken then BitVec.ofInt 16 (s.pc.toNat + 3 + rr.toInt)
              else s.pc + 3 } := by
  rw [branchOnBit_eq, bprelTarget_eq_ofInt]

/-- Settles O50: each instruction is `branchOnBit` of its bit, taken on 0. -/
theorem bbrBranchesOnABitClear : Obligations.BbrBranchesOnABitClear := by
  intro s nn rr branches
  have branch (i : Instr) (n : Nat) (h : exec i s = .next (branchOnBit n false nn rr s)) : branches i n :=
    h.trans (congrArg _ (branchOnBit_eq_ofInt n false nn rr s))
  exact
    ⟨branch _ 0 rfl, branch _ 1 rfl, branch _ 2 rfl, branch _ 3 rfl, branch _ 4 rfl, branch _ 5 rfl,
      branch _ 6 rfl, branch _ 7 rfl⟩

/-- Settles O51: each instruction is `branchOnBit` of its bit, taken on 1. -/
theorem bbsBranchesOnABitSet : Obligations.BbsBranchesOnABitSet := by
  intro s nn rr branches
  have branch (i : Instr) (n : Nat) (h : exec i s = .next (branchOnBit n true nn rr s)) : branches i n :=
    h.trans (congrArg _ (branchOnBit_eq_ofInt n true nn rr s))
  exact
    ⟨branch _ 0 rfl, branch _ 1 rfl, branch _ 2 rfl, branch _ 3 rfl, branch _ 4 rfl, branch _ 5 rfl,
      branch _ 6 rfl, branch _ 7 rfl⟩

/-- Settles O53: each form sets the program counter to the target of its operand form; the pointer of the indexed
form is a sum of numbers. -/
theorem jmpGoesToItsTarget : Obligations.JmpGoesToItsTarget := by
  intro s nnnn jumps wordAt
  have jump (i : Instr) (form : JumpForm) (h : exec i s = .next (s.setPc (form.target s))) :
      jumps i (form.target s) := h
  refine ⟨jump _ (.abs nnnn) rfl, jump _ (.absind nnnn) rfl, ?_⟩
  rw [← add_zext16_eq_ofNat]
  exact jump _ (.absindx nnnn) rfl

end Sys2Proof.Machine
end

section
/-! Pushes of one register, and the flag instructions (`45_stack_flag_system.md` rules R420, R423 to R425, and R431 to
R439). -/
namespace Sys2Proof.Machine

/-! ### What a push instruction does (R66, R24) -/

/-- A push of one byte and the move past the instruction change the stack pointer, the program counter and the
memory. -/
theorem State.push8_advance_frame (s : State) (v : Byte) (len : Nat) :
    (s.push8 v).advance len =
      { s with
        sph := (s.spAdd (-1)).sph, spl := (s.spAdd (-1)).spl, pc := s.pc + BitVec.ofNat 16 len
        mem := ((s.push8 v).advance len).mem } := by
  rw [State.advance_eq, State.push8_eq, State.spAdd_frame]

/-- The move past a push writes nothing more than the push did. -/
theorem State.push8_advance_wroteOnly (s : State) (v : Byte) (len : Nat) :
    s.wroteOnly ((s.push8 v).advance len) [(s.progCell .write s.sp, v)] :=
  State.push8_wroteOnly s v

/-! ### The statements -/

/-- Settles O56: each instruction is the push of its register and the move past one byte. -/
theorem pushesStoreAtTheStackPointer : Obligations.PushesStoreAtTheStackPointer := by
  intro s pushes
  have push (i : Instr) (v : Byte) (h : exec i s = .next ((s.push8 v).advance 1)) : pushes i v :=
    ⟨_, h, State.push8_advance_frame s v 1, State.push8_advance_wroteOnly s v 1⟩
  exact ⟨push .pha s.a rfl, push .phx s.x rfl, push .phy s.y rfl, push .phz s.z rfl⟩

/-- Settles O59: each instruction replaces the flags by themselves with its one flag written, then moves past one
byte. -/
theorem flagInstructionsSetOneFlag : Obligations.FlagInstructionsSetOneFlag := by
  intro s sets
  have writes (i : Instr) (p : PFlags) (h : exec i s = .next ((s.setFlags p).advance 1)) : sets i p :=
    h.trans (congrArg _ (State.advance_eq (s.setFlags p) 1))
  exact
    ⟨writes .clc _ rfl, writes .cld _ rfl, writes .cle _ rfl, writes .cli _ rfl, writes .clv _ rfl,
      writes .sec _ rfl, writes .sed _ rfl, writes .see _ rfl, writes .sei _ rfl⟩

end Sys2Proof.Machine
end

section
/-! The decoder and the encoder (`30_encoding.md`): each row of the opcode map builds instructions whose bytes are the
first byte and the operand bytes it was given, and each instruction is built by its row from its own operand bytes. -/
namespace Sys2Proof

open Sys2Proof.Machine (wordOf loByte hiByte wordOf_hiByte_loByte loByte_wordOf hiByte_wordOf)

/-! ### The rows of the opcode map (R105) -/

/-- The row for first byte `op` builds instructions whose bytes are `op` and as many of the operand bytes as the row's
length asks for (R100, R104). -/
def RowOf (op : Byte) (mk : Byte → Byte → Instr) : Prop :=
  ∀ p q : Byte, encode (mk p q) = op :: [p, q].take ((mk 0 0).length - 1)

/-- The rows of the list are those of the first bytes from `k` up to `k'`, one after the other. -/
def RowsFrom : Nat → Nat → List (Byte → Byte → Instr) → Prop
  | k, k', [] => k = k'
  | k, k', mk :: rest => RowOf (BitVec.ofNat 8 k) mk ∧ RowsFrom (k + 1) k' rest

theorem RowsFrom.append {k m k' : Nat} {l l' : List (Byte → Byte → Instr)} (h : RowsFrom k m l)
    (h' : RowsFrom m k' l') : RowsFrom k k' (l ++ l') := by
  induction l generalizing k with
  | nil => exact (show k = m from h) ▸ h'
  | cons mk rest ih => exact ⟨h.1, ih h.2⟩

theorem RowsFrom.length {k k' : Nat} {l : List (Byte → Byte → Instr)} (h : RowsFrom k k' l) :
    k + l.length = k' := by
  induction l generalizing k with
  | nil => exact h
  | cons mk rest ih =>
    have hrest := ih h.2
    rw [List.length_cons]
    omega

theorem RowsFrom.rowOf {k k' j : Nat} {l : List (Byte → Byte → Instr)} {mk : Byte → Byte → Instr}
    (h : RowsFrom k k' l) (hj : l[j]? = some mk) : RowOf (BitVec.ofNat 8 (k + j)) mk := by
  induction l generalizing k j with
  | nil => simp at hj
  | cons first rest ih =>
    obtain ⟨hfirst, hrest⟩ := h
    cases j with
    | zero =>
      obtain rfl : first = mk := by simpa using hj
      exact hfirst
    | succ j =>
      have hrow := ih hrest (j := j) (by simpa using hj)
      rwa [Nat.add_right_comm, Nat.add_assoc] at hrow

theorem opcodeRows_rowsFrom :
    RowsFrom 0x00 0x10 opcodeRow0 ∧ RowsFrom 0x10 0x20 opcodeRow1 ∧ RowsFrom 0x20 0x30 opcodeRow2 ∧
      RowsFrom 0x30 0x40 opcodeRow3 ∧ RowsFrom 0x40 0x50 opcodeRow4 ∧ RowsFrom 0x50 0x60 opcodeRow5 ∧
      RowsFrom 0x60 0x70 opcodeRow6 ∧ RowsFrom 0x70 0x80 opcodeRow7 ∧ RowsFrom 0x80 0x90 opcodeRow8 ∧
      RowsFrom 0x90 0xA0 opcodeRow9 ∧ RowsFrom 0xA0 0xB0 opcodeRowA ∧ RowsFrom 0xB0 0xC0 opcodeRowB ∧
      RowsFrom 0xC0 0xD0 opcodeRowC ∧ RowsFrom 0xD0 0xE0 opcodeRowD ∧ RowsFrom 0xE0 0xF0 opcodeRowE ∧
      RowsFrom 0xF0 0x100 opcodeRowF := by
  refine ⟨?_, ?_, ?_, ?_, ?_, ?_, ?_, ?_, ?_, ?_, ?_, ?_, ?_, ?_, ?_, ?_⟩ <;>
    simp [opcodeRow0, opcodeRow1, opcodeRow2, opcodeRow3, opcodeRow4, opcodeRow5, opcodeRow6, opcodeRow7, opcodeRow8,
      opcodeRow9, opcodeRowA, opcodeRowB, opcodeRowC, opcodeRowD, opcodeRowE, opcodeRowF, RowsFrom, RowOf, encode,
      Instr.opcode, Instr.operandBytes, Instr.length, Instr.format, Format.length]

/-- Every row of the opcode map is the row of its first byte. -/
theorem opcodeMap_rowsFrom : RowsFrom 0x00 0x100 opcodeMap := by
  obtain ⟨h0, h1, h2, h3, h4, h5, h6, h7, h8, h9, hA, hB, hC, hD, hE, hF⟩ := opcodeRows_rowsFrom
  have h0to3 := RowsFrom.append (.append (.append h0 h1) h2) h3
  have h0to7 := RowsFrom.append (.append (.append (.append h0to3 h4) h5) h6) h7
  have h0toB := RowsFrom.append (.append (.append (.append h0to7 h8) h9) hA) hB
  exact .append (.append (.append (.append h0toB hC) hD) hE) hF

/-- Every first byte has a row (R107). -/
theorem exists_row (op : Byte) : ∃ mk, opcodeMap[op.toNat]? = some mk ∧ RowOf op mk := by
  have hlt : op.toNat < opcodeMap.length := by
    have hlen := opcodeMap_rowsFrom.length
    have := op.isLt
    omega
  refine ⟨opcodeMap[op.toNat], List.getElem?_eq_getElem hlt, ?_⟩
  simpa using opcodeMap_rowsFrom.rowOf (List.getElem?_eq_getElem hlt)

/-- Each instruction is built by the row of its opcode from its own operand bytes, whatever follows them. -/
theorem row_builds (i : Instr) :
    ∃ mk, opcodeMap[i.opcode.toNat]? = some mk ∧ i.operandBytes.length = (mk 0 0).length - 1 ∧
      ∀ rest, mk ((i.operandBytes ++ rest).getD 0 0) ((i.operandBytes ++ rest).getD 1 0) = i := by
  cases i <;> exact ⟨_, rfl, rfl, fun rest => by simp [Instr.operandBytes]⟩

/-! ### Lengths (R100, R102) -/

/-- Every operand form takes 1, 2 or 3 bytes (R102). -/
theorem Format.length_bounds (f : Format) : 1 ≤ f.length ∧ f.length ≤ 3 := by cases f <;> decide

theorem Instr.length_bounds (i : Instr) : 1 ≤ i.length ∧ i.length ≤ 3 := Format.length_bounds i.format

/-- A first byte asks for the length of its row. -/
theorem lengthOfOpcode_of_row {op : Byte} {mk : Byte → Byte → Instr} (hmk : opcodeMap[op.toNat]? = some mk) :
    lengthOfOpcode op = (mk 0 0).length := by simp [lengthOfOpcode, hmk]

theorem lengthOfOpcode_bounds (op : Byte) : 1 ≤ lengthOfOpcode op ∧ lengthOfOpcode op ≤ 3 := by
  obtain ⟨mk, hmk, -⟩ := exists_row op
  rw [lengthOfOpcode_of_row hmk]
  exact Instr.length_bounds _

/-! ### The decoder, by the row of the first byte -/

/-- With as many bytes after the first as it asks for, the decoder answers what the row builds from the first two. -/
theorem decode_of_row {op : Byte} {bytes : List Byte} {mk : Byte → Byte → Instr}
    (hmk : opcodeMap[op.toNat]? = some mk) (hlen : (mk 0 0).length - 1 ≤ bytes.length) :
    decode (op :: bytes) = .ok (mk (bytes.getD 0 0) (bytes.getD 1 0), bytes.drop ((mk 0 0).length - 1)) := by
  simp only [decode, hmk, if_neg (Nat.not_lt.2 hlen)]

/-- The decoder answers an instruction only so. -/
theorem decode_eq_ok {code rest : List Byte} {i : Instr} (h : decode code = .ok (i, rest)) :
    ∃ op bytes mk, code = op :: bytes ∧ opcodeMap[op.toNat]? = some mk ∧ RowOf op mk ∧
      (mk 0 0).length - 1 ≤ bytes.length ∧ i = mk (bytes.getD 0 0) (bytes.getD 1 0) ∧
      rest = bytes.drop ((mk 0 0).length - 1) := by
  cases code with
  | nil => cases h
  | cons op bytes =>
    obtain ⟨mk, hmk, hrow⟩ := exists_row op
    by_cases hlen : (mk 0 0).length - 1 ≤ bytes.length
    · rw [decode_of_row hmk hlen] at h
      cases h
      exact ⟨op, bytes, mk, rfl, hmk, hrow, hlen, rfl, rfl⟩
    · simp only [decode, hmk, if_pos (Nat.not_le.1 hlen)] at h
      cases h

/-- A row builds instructions with its first byte as opcode. -/
theorem RowOf.opcode {op : Byte} {mk : Byte → Byte → Instr} (h : RowOf op mk) (p q : Byte) : (mk p q).opcode = op :=
  (List.cons.inj (h p q)).1

/-- At most two bytes off the front of a list, by their places. -/
theorem take_getD_eq_take {n : Nat} {bytes : List Byte} (hn : n ≤ 2) (hlen : n ≤ bytes.length) :
    [bytes.getD 0 0, bytes.getD 1 0].take n = bytes.take n := by
  match n, bytes, hn, hlen with
  | 0, _, _, _ => rfl
  | 1, b :: _, _, _ => rfl
  | 2, b :: c :: _, _, _ => rfl

/-! ### The statements -/

/-- Settles O2: the row of the opcode builds the instruction back from its operand bytes, and leaves what follows. -/
theorem decodingAnEncodedInstructionGivesItBack : Obligations.DecodingAnEncodedInstructionGivesItBack := by
  intro i rest
  obtain ⟨mk, hmk, hlen, hbuild⟩ := row_builds i
  have hle : (mk 0 0).length - 1 ≤ (i.operandBytes ++ rest).length := by
    rw [← hlen, List.length_append]
    exact Nat.le_add_right ..
  rw [encode, List.cons_append, decode_of_row hmk hle, hbuild, ← hlen, List.drop_left]

/-- Settles O3: the row of the first byte encodes to that byte and the operand bytes taken. -/
theorem decodingDropsNoByte : Obligations.DecodingDropsNoByte := by
  intro code i rest h
  obtain ⟨op, bytes, mk, rfl, -, hrow, hlen, rfl, rfl⟩ := decode_eq_ok h
  have hle : (mk 0 0).length - 1 ≤ 2 := by have := Instr.length_bounds (mk 0 0); omega
  rw [hrow, List.cons_append, take_getD_eq_take hle hlen, List.take_append_drop]

/-- Settles O4: every first byte has a row, and two bytes are as many as any row asks for. -/
theorem everyFirstByteIsAnInstruction : Obligations.EveryFirstByteIsAnInstruction := by
  intro op op1 op2 rest
  obtain ⟨mk, hmk, hrow⟩ := exists_row op
  have hlen : (mk 0 0).length - 1 ≤ (op1 :: op2 :: rest).length := by
    have := Instr.length_bounds (mk 0 0)
    simp only [List.length_cons]
    omega
  exact ⟨_, _, decode_of_row hmk hlen, hrow.opcode _ _⟩

/-- Settles O5: the decoder takes the first byte and as many after it as its row asks for. -/
theorem theFirstByteFixesTheLength : Obligations.TheFirstByteFixesTheLength := by
  intro code i rest h
  obtain ⟨op, bytes, mk, rfl, hmk, hrow, hlen, rfl, rfl⟩ := decode_eq_ok h
  obtain ⟨hpos, hle⟩ := lengthOfOpcode_bounds op
  rw [hrow.opcode]
  rw [← lengthOfOpcode_of_row hmk] at hlen ⊢
  obtain ⟨k, hk⟩ := Nat.exists_eq_add_of_le' hpos
  rw [hk] at hlen ⊢
  refine ⟨rfl, rfl, ?_, by omega, by omega⟩
  rw [Nat.add_sub_cancel] at hlen ⊢
  rw [List.length_cons, List.length_drop]
  omega

/-- Settles O1: the decoder evaluated on the fourteen words. -/
theorem wordsWrittenOutFromTheSpecDecode : Obligations.WordsWrittenOutFromTheSpecDecode :=
  ⟨rfl, rfl, rfl, rfl, rfl, rfl, rfl, rfl, rfl, rfl, rfl, rfl, rfl, rfl⟩

end Sys2Proof
end

section
/-! The stack (`20_memory.md` rules R65 to R68): what the instructions that push, pull, call, return, trap and return
from a trap do to the state, and that a pull gives back what was pushed. -/
namespace Sys2Proof.Machine

/-! ### Pushes, pulls and entries, field by field (R66 to R68, R508, R441) -/

/-- A pushed word changes the stack pointer and the memory, and no other field. -/
theorem State.pushWord_frame (s : State) (w : Addr) :
    s.pushWord w =
      { s with sph := (s.spAdd (-2)).sph, spl := (s.spAdd (-2)).spl, mem := (s.pushWord w).mem } := by
  rw [State.pushWord_eq, State.spAdd_frame]

/-- A pushed word is written high byte first. -/
theorem State.pushWord_wroteOnly (s : State) (w : Addr) :
    s.wroteOnly (s.pushWord w)
      [(s.progCell .write s.sp, hiByte w), (s.progCell .write (s.spAdd (-1)).sp, loByte w)] :=
  State.wroteOnly_write (State.wroteOnly_one (t := s.writeByte s.sp (hiByte w)) _ _ rfl) _ _
    (congrArg State.mem (State.pushWord_eq s w))

/-- The byte pulled is the one at the stack pointer moved up by one. -/
theorem State.pullByte_eq (s : State) : s.pullByte = s.readByte (s.spAdd 1).sp :=
  State.readByte_congr (State.spAdd_mem s 1) (State.spAdd_params s 1) (State.spAdd_mapState s 1) _

/-- The word pulled is at the stack pointer moved up by one and by two, low byte first. -/
theorem State.pullWord_eq (s : State) :
    s.pullWord = wordOf (s.readByte (s.spAdd 2).sp) (s.readByte (s.spAdd 1).sp) := by
  rw [State.pullWord, State.pullByte_eq, State.pullByte_eq, State.pulled_eq, State.spAdd_spAdd,
    State.readByte_congr (State.spAdd_mem s 1) (State.spAdd_params s 1) (State.spAdd_mapState s 1)]
  rfl

/-- What is read after a move of the stack pointer is what was read before. -/
theorem State.readByte_spAdd (s : State) (k a : Addr) : (s.spAdd k).readByte a = s.readByte a :=
  State.readByte_congr (State.spAdd_mem s k) (State.spAdd_params s k) (State.spAdd_mapState s k) a

/-- An entry changes the stack pointer, `P.I`, `eom_prefix`, the program counter and the memory; the vector is read
after the pushes (R508). -/
theorem State.entry_frame (s : State) (ra : Addr) (brk : Bool) (vector : Addr) :
    s.entry ra brk vector =
      { s with
        sph := (s.spAdd (-3)).sph, spl := (s.spAdd (-3)).spl, p := { s.p with i := true }, eomPrefix := false
        pc := wordOf ((s.entry ra brk vector).readByte (vector + 1)) ((s.entry ra brk vector).readByte vector)
        mem := (s.entry ra brk vector).mem } := by
  have hread (a : Addr) :
      (s.entry ra brk vector).readByte a = ((s.pushWord ra).push8 (s.p.pbyte brk)).readByte a := by
    rw [State.entry_eq]; exact State.readByte_congr rfl rfl rfl a
  rw [hread, hread, State.entry_eq, State.entry_pushes, State.spAdd_frame]
  rfl

/-- An entry writes the return address, high byte first, and then the flag byte. -/
theorem State.entry_wroteOnly (s : State) (ra : Addr) (brk : Bool) (vector : Addr) :
    s.wroteOnly (s.entry ra brk vector)
      [(s.progCell .write s.sp, hiByte ra), (s.progCell .write (s.spAdd (-1)).sp, loByte ra),
        (s.progCell .write (s.spAdd (-2)).sp, s.p.pbyte brk)] := by
  refine State.wroteOnly_write (State.pushWord_wroteOnly s ra) _ _ ?_
  rw [State.entry_eq, State.entry_pushes, State.pushWord_eq]

/-- A return from an entry changes the stack pointer, the flags but `P.E`, and the program counter (R441). -/
theorem State.entryReturn_frame (s : State) :
    s.entryReturn =
      { s with
        sph := (s.spAdd 3).sph, spl := (s.spAdd 3).spl, p := s.p.setP (s.readByte (s.spAdd 1).sp)
        pc := wordOf (s.readByte (s.spAdd 3).sp) (s.readByte (s.spAdd 2).sp) } := by
  rw [State.entryReturn_eq, State.pulledWord_eq, State.pullWord_eq, State.pullByte_eq, State.pulled_eq,
    State.readByte_spAdd, State.readByte_spAdd, State.spAdd_spAdd, State.spAdd_spAdd, State.spAdd_frame]
  rfl

/-! ### The instructions -/

/-- A call changes the stack pointer, the program counter and the memory (R378, R382). -/
theorem callTo_frame (target : Addr) (s : State) :
    callTo target s =
      { s with
        sph := (s.spAdd (-2)).sph, spl := (s.spAdd (-2)).spl, pc := target, mem := (callTo target s).mem } := by
  rw [callTo_eq, State.pushWord_frame]

/-- A return changes the stack pointer and the program counter (R383). -/
theorem returnFrom_frame (s : State) :
    returnFrom s =
      { s with
        sph := (s.spAdd 2).sph, spl := (s.spAdd 2).spl
        pc := wordOf (s.readByte (s.spAdd 2).sp) (s.readByte (s.spAdd 1).sp) + 1 } := by
  rw [returnFrom_eq, State.pulledWord_eq, State.pullWord_eq, State.spAdd_frame]

/-- A move of the stack pointer does not look at the program counter. -/
theorem State.spAdd_withPc (s : State) (pc k : Addr) :
    ({ s with pc := pc } : State).spAdd k = { s.spAdd k with pc := pc } := by
  unfold State.spAdd
  split <;> rfl

/-- `RTS #$nn` changes the stack pointer and the program counter; the word it pulls lies above the bytes it drops when
it adjusts first (R383, D26). -/
theorem returnAdjusting_frame (nn : Byte) (s : State) :
    returnAdjusting nn s =
      let skipped := if s.params.rtsImmAdjustFirst then zext16 nn else 0
      { s with
        sph := (s.spAdd (zext16 nn + 2)).sph, spl := (s.spAdd (zext16 nn + 2)).spl
        pc := wordOf (s.readByte (s.spAdd (skipped + 2)).sp) (s.readByte (s.spAdd (skipped + 1)).sp) + 1 } := by
  rw [returnAdjusting_eq]
  cases s.params.rtsImmAdjustFirst
  · rw [if_neg Bool.false_ne_true, returnFrom_eq, State.spAdd_withPc, State.pulledWord_eq, State.spAdd_spAdd,
      BitVec.add_comm, State.pullWord_eq, State.spAdd_frame]
    rfl
  · rw [if_pos rfl, returnFrom_frame]
    simp only [State.spAdd_spAdd, State.readByte_spAdd]
    rw [State.spAdd_frame]
    rfl

/-- A pull moves the stack pointer up by one (R67). -/
theorem State.pulled_frame (s : State) : s.pulled = { s with sph := (s.spAdd 1).sph, spl := (s.spAdd 1).spl } :=
  State.spAdd_frame s 1

/-- A pushed word and the move past the instruction (R422, R24). -/
theorem State.pushWord_advance_frame (s : State) (w : Addr) (len : Nat) :
    (s.pushWord w).advance len =
      { s with
        sph := (s.spAdd (-2)).sph, spl := (s.spAdd (-2)).spl, pc := s.pc + BitVec.ofNat 16 len
        mem := ((s.pushWord w).advance len).mem } := by
  rw [State.advance_eq, State.pushWord_frame]

/-! ### Reading back what was pushed -/

/-- Every program address reads the location that the same address writes, and no other. -/
def State.readsBack (s : State) : Prop := ∀ a b : Addr, s.progCell .write a = s.progCell .read b ↔ a = b

theorem State.spAdd_zero (s : State) : s.spAdd 0 = s := by
  have h := State.spAdd_spAdd s (-1) 1
  rw [State.spAdd_neg_one_one] at h
  exact h.symm

/-- Moves that differ modulo 256 lead to different stack addresses, whatever `P.E` is. -/
theorem State.spAdd_sp_ne (s : State) {j k : Addr} (h : loByte j ≠ loByte k) : (s.spAdd j).sp ≠ (s.spAdd k).sp := by
  intro heq
  have hlo := congrArg loByte heq
  rw [State.spAdd_sp, State.spAdd_sp] at hlo
  apply h
  by_cases he : s.p.e = true
  · simpa [he] using hlo
  · simpa [he, loByte_add] using hlo

/-- A move of the stack pointer depends on the two bytes of it and on `P.E` only. -/
theorem State.spAdd_congr {s t : State} (hsph : t.sph = s.sph) (hspl : t.spl = s.spl) (he : t.p.e = s.p.e) (k : Addr) :
    (t.spAdd k).sph = (s.spAdd k).sph ∧ (t.spAdd k).spl = (s.spAdd k).spl := by
  have hsp : t.sp = s.sp := by rw [State.sp, State.sp, hsph, hspl]
  by_cases h : s.p.e = true
  · rw [State.spAdd_of_e h, State.spAdd_of_e (he.trans h), hspl]
    exact ⟨hsph, rfl⟩
  · have h' : s.p.e = false := by simpa using h
    rw [State.spAdd_of_not_e h', State.spAdd_of_not_e (he.trans h'), hsp]
    exact ⟨rfl, rfl⟩

/-- `t` has the stack pointer of `s` moved by `j` and, over the memory of `s`, the listed bytes; the map, the
parameters and `P.E` are those of `s`. -/
structure State.Pushed (s t : State) (j : Addr) (ws : List (Nat × Byte)) : Prop where
  sph : t.sph = (s.spAdd j).sph
  spl : t.spl = (s.spAdd j).spl
  e : t.p.e = s.p.e
  params : t.params = s.params
  mapState : t.mapState = s.mapState
  wrote : s.wroteOnly t ws

theorem State.Pushed.spAdd {s t : State} {j : Addr} {ws : List (Nat × Byte)} (h : s.Pushed t j ws) (k : Addr) :
    (t.spAdd k).sph = (s.spAdd (j + k)).sph ∧ (t.spAdd k).spl = (s.spAdd (j + k)).spl := by
  rw [← State.spAdd_spAdd]
  exact State.spAdd_congr h.sph h.spl (by rw [h.e, State.spAdd_p]) k

/-- The byte at the stack pointer moved up, among the listed ones. -/
theorem State.Pushed.readByte {s t : State} {j : Addr} {ws : List (Nat × Byte)} (h : s.Pushed t j ws) (k : Addr) :
    t.readByte (t.spAdd k).sp = readOver s.mem ws (s.progCell .read (s.spAdd (j + k)).sp) := by
  obtain ⟨hsph, hspl⟩ := h.spAdd k
  have hsp : (t.spAdd k).sp = (s.spAdd (j + k)).sp := by rw [State.sp, State.sp, hsph, hspl]
  rw [State.readByte_eq, hsp, State.progCell_congr h.params h.mapState, h.wrote]

theorem State.entry_pushed (s : State) (ra : Addr) (brk : Bool) (vector : Addr) :
    s.Pushed (s.entry ra brk vector) (-3)
      [(s.progCell .write s.sp, hiByte ra), (s.progCell .write (s.spAdd (-1)).sp, loByte ra),
        (s.progCell .write (s.spAdd (-2)).sp, s.p.pbyte brk)] where
  sph := by rw [State.entry_frame]
  spl := by rw [State.entry_frame]
  e := by rw [State.entry_frame]
  params := by rw [State.entry_frame]
  mapState := by rw [State.entry_frame]
  wrote := State.entry_wroteOnly s ra brk vector

theorem State.pushWord_pushed (s : State) (w pc : Addr) :
    s.Pushed { s.pushWord w with pc := pc } (-2)
      [(s.progCell .write s.sp, hiByte w), (s.progCell .write (s.spAdd (-1)).sp, loByte w)] where
  sph := by rw [State.pushWord_frame]
  spl := by rw [State.pushWord_frame]
  e := by rw [State.pushWord_frame]
  params := by rw [State.pushWord_frame]
  mapState := by rw [State.pushWord_frame]
  wrote := State.pushWord_wroteOnly s w

theorem State.push8_pushed (s : State) (v : Byte) (pc : Addr) :
    s.Pushed { s.push8 v with pc := pc } (-1) [(s.progCell .write s.sp, v)] where
  sph := by rw [State.push8_eq]
  spl := by rw [State.push8_eq]
  e := by simp [State.push8_eq]
  params := by simp [State.push8_eq]
  mapState := by simp [State.push8_eq]
  wrote := State.push8_wroteOnly s v

/-- The last byte written to a program address is the one read there. -/
theorem readOver_snoc_self {s : State} (h : s.readsBack) (ws : List (Nat × Byte)) (a : Addr) (v : Byte) :
    readOver s.mem (ws ++ [(s.progCell .write a, v)]) (s.progCell .read a) = v := by
  rw [readOver_append, if_pos ((h a a).2 rfl)]

/-- A byte written at one program address is not read at another. -/
theorem readOver_snoc_ne {s : State} (h : s.readsBack) (ws : List (Nat × Byte)) {a b : Addr} (hab : a ≠ b) (v : Byte) :
    readOver s.mem (ws ++ [(s.progCell .write a, v)]) (s.progCell .read b) =
      readOver s.mem ws (s.progCell .read b) := by
  rw [readOver_append, if_neg fun heq => hab ((h a b).1 heq)]

/-- The return from an entry gives the state before the entry back, at the return address. -/
theorem State.entryReturn_entry {s : State} (h : s.readsBack) (ra : Addr) (brk : Bool) (vector : Addr) :
    (s.entry ra brk vector).entryReturn =
      { s with pc := ra, eomPrefix := false, mem := (s.entry ra brk vector).mem } := by
  have hpushed := State.entry_pushed s ra brk vector
  obtain ⟨hsph, hspl⟩ := hpushed.spAdd 3
  have h10 : (s.spAdd (-1)).sp ≠ (s.spAdd 0).sp := s.spAdd_sp_ne (by decide)
  have h20 : (s.spAdd (-2)).sp ≠ (s.spAdd 0).sp := s.spAdd_sp_ne (by decide)
  have h21 : (s.spAdd (-2)).sp ≠ (s.spAdd (-1)).sp := s.spAdd_sp_ne (by decide)
  rw [State.spAdd_zero] at h10 h20
  have hflags : (s.entry ra brk vector).readByte ((s.entry ra brk vector).spAdd 1).sp = s.p.pbyte brk := by
    rw [hpushed.readByte]
    exact readOver_snoc_self h [_, _] _ _
  have hlow : (s.entry ra brk vector).readByte ((s.entry ra brk vector).spAdd 2).sp = loByte ra := by
    rw [hpushed.readByte]
    exact (readOver_snoc_ne h [_, _] h21 _).trans (readOver_snoc_self h [_] _ _)
  have hhigh : (s.entry ra brk vector).readByte ((s.entry ra brk vector).spAdd 3).sp = hiByte ra := by
    rw [hpushed.readByte, show (-3 : Addr) + 3 = 0 from rfl, State.spAdd_zero]
    exact ((readOver_snoc_ne h [_, _] h20 _).trans (readOver_snoc_ne h [_] h10 _)).trans (readOver_snoc_self h [] _ _)
  rw [show (-3 : Addr) + 3 = 0 from rfl, State.spAdd_zero] at hsph hspl
  rw [State.entryReturn_frame, hflags, hhigh, hlow, hsph, hspl, PFlags.setP_pbyte, wordOf_hiByte_loByte,
    State.entry_frame]

/-- The return from a call gives the state before the call back, after the address pushed. -/
theorem returnFrom_pushWord {s : State} (h : s.readsBack) (w pc : Addr) :
    returnFrom { s.pushWord w with pc := pc } = { s with pc := w + 1, mem := (s.pushWord w).mem } := by
  have hpushed := State.pushWord_pushed s w pc
  obtain ⟨hsph, hspl⟩ := hpushed.spAdd 2
  have h10 : (s.spAdd (-1)).sp ≠ (s.spAdd 0).sp := s.spAdd_sp_ne (by decide)
  rw [State.spAdd_zero] at h10
  have hlow := (hpushed.readByte 1).trans (readOver_snoc_self h [_] _ _)
  have hhigh := hpushed.readByte 2
  rw [show (-2 : Addr) + 2 = 0 from rfl, State.spAdd_zero] at hsph hspl hhigh
  have hhigh := (hhigh.trans (readOver_snoc_ne h [_] h10 _)).trans (readOver_snoc_self h [] _ _)
  rw [returnFrom_frame, hlow, hhigh, hsph, hspl, wordOf_hiByte_loByte, State.pushWord_frame]

/-- A pull after a push gives the byte pushed. -/
theorem State.pullByte_push8 {s : State} (h : s.readsBack) (v : Byte) (pc : Addr) :
    ({ s.push8 v with pc := pc } : State).pullByte = v := by
  have hread := (State.push8_pushed s v pc).readByte 1
  rw [show (-1 : Addr) + 1 = 0 from rfl, State.spAdd_zero] at hread
  rw [State.pullByte_eq]
  exact hread.trans (readOver_snoc_self h [] _ _)

/-- A pull after a push brings the stack pointer back. -/
theorem State.pulled_push8 (s : State) (v : Byte) (pc : Addr) :
    ({ s.push8 v with pc := pc } : State).pulled = { s with pc := pc, mem := (s.push8 v).mem } := by
  have hback := (s.push8_pushed v pc).spAdd 1
  rw [show (-1 : Addr) + 1 = 0 from rfl, State.spAdd_zero] at hback
  obtain ⟨hsph, hspl⟩ := hback
  rw [State.pulled_frame, hsph, hspl, State.push8_eq, State.spAdd_frame]

/-! ### The statements -/

/-- Settles O18: BRK is an entry with the address of BRK plus 2, the Break bit 1 and BRK's vector. -/
theorem brkTakesTheTrap : Obligations.BrkTakesTheTrap := fun s =>
  ⟨_, rfl, State.entry_frame s (s.pc + 2) true 0xFFFE, State.entry_wroteOnly s (s.pc + 2) true 0xFFFE⟩

/-- Settles O19: RTI is the return from an entry. -/
theorem rtiRestoresFlagsAndProgramCounter : Obligations.RtiRestoresFlagsAndProgramCounter := fun s =>
  congrArg _ (State.entryReturn_frame s)

/-- Settles O20: the return reads back the three bytes of the entry. -/
theorem rtiUndoesBrk : Obligations.RtiUndoesBrk := by
  intro s t u h hbrk hrti
  obtain rfl : s.entry (s.pc + 2) true 0xFFFE = t := Host.Outcome.next.inj hbrk
  obtain rfl : (s.entry (s.pc + 2) true 0xFFFE).entryReturn = u := Host.Outcome.next.inj hrti
  rw [State.entryReturn_entry h]

/-- The target of a word-relative branch: the word counts from the address plus `REL16_BASE` (R160, D14). -/
theorem relwTarget_eq_ofNat (params : Params) (pc0 rrrr : Addr) :
    relwTarget params pc0 rrrr = BitVec.ofNat 16 (pc0.toNat + params.rel16Base + rrrr.toNat) := by
  rw [relwTarget, BitVec.ofNat_add, BitVec.ofNat_add, BitVec.ofNat_toNat, BitVec.ofNat_toNat, BitVec.setWidth_eq,
    BitVec.setWidth_eq]

/-- Settles O54: each call is `callTo` at its target, the displacement of BSR added as a number. -/
theorem callsPushTheAddressOfTheirLastByte : Obligations.CallsPushTheAddressOfTheirLastByte := by
  intro s nnnn calls wordAt
  have call (i : Instr) (target : Addr) (h : exec i s = .next (callTo target s)) : calls i target :=
    ⟨_, h, callTo_frame target s, State.pushWord_wroteOnly s (s.pc + 2)⟩
  refine ⟨call _ _ rfl, call _ _ rfl, ?_, ?_⟩
  · rw [← add_zext16_eq_ofNat]
    exact call _ _ rfl
  · rw [← relwTarget_eq_ofNat]
    exact call _ _ rfl

/-- Settles O55: RTS is `returnFrom`, and `RTS #$nn` the same with its bytes dropped before or after. -/
theorem rtsPullsTheAddressAndAddsOne : Obligations.RtsPullsTheAddressAndAddsOne := by
  intro s nn returns count
  have hcount : zext16 nn = count := (BitVec.ofNat_toNat 16 nn).symm
  refine ⟨congrArg _ (returnFrom_frame s), ?_⟩
  have hnext : exec (.rtsImm nn) s = .next (returnAdjusting nn s) := rfl
  rw [returnAdjusting_frame, hcount] at hnext
  exact hnext

/-- Settles O57: PHP is the push of the flag byte, and PHW the push of its word. -/
theorem phpAndPhwPushFlagsAndWords : Obligations.PhpAndPhwPushFlagsAndWords := by
  intro s pushes pushesWord
  have push (i : Instr) (w : Addr) (h : exec i s = .next ((s.pushWord w).advance 3)) : pushesWord i w :=
    ⟨_, h, State.pushWord_advance_frame s w 3, State.pushWord_wroteOnly s w⟩
  exact
    ⟨⟨_, rfl, State.push8_advance_frame s (s.p.pbyte true) 1, State.push8_advance_wroteOnly s (s.p.pbyte true) 1⟩,
      fun nnnn => push (.phwImmw nnnn) nnnn rfl, fun nnnn => push (.phwAbs nnnn) (s.readWord nnnn) rfl⟩

/-- Settles O58: each instruction sets its register, or the flags, from the byte pulled, after the move up by one. -/
theorem pullsReadAboveTheStackPointer : Obligations.PullsReadAboveTheStackPointer := by
  intro s v u flags
  have pull (i : Instr) (next : State → Byte → State) (h : exec i s = .next (next s.pulled s.pullByte)) :
      exec i s = .next (next { s with sph := (s.spAdd 1).sph, spl := (s.spAdd 1).spl } v) := by
    rwa [State.pulled_frame, State.pullByte_eq] at h
  exact
    ⟨pull .pla (fun t v => ((t.setA v).setNZ v).advance 1) rfl,
      pull .plx (fun t v => ((t.setX v).setNZ v).advance 1) rfl,
      pull .ply (fun t v => ((t.setY v).setNZ v).advance 1) rfl,
      pull .plz (fun t v => ((t.setZ v).setNZ v).advance 1) rfl,
      pull .plp (fun t v => (t.setFlags (s.p.setP v)).advance 1) rfl⟩

/-- Settles O21: RTS reads back the two bytes of the call, or of the word pushed. -/
theorem rtsReturnsToTheInstructionAfterACall : Obligations.RtsReturnsToTheInstructionAfterACall := by
  intro s h returnsTo
  have returns (i : Instr) (w pc : Addr) (hi : exec i s = .next { s.pushWord w with pc := pc }) :
      returnsTo i (w + 1) := by
    intro t u ht hu
    obtain rfl := Host.Outcome.next.inj (hi.symm.trans ht)
    obtain rfl := Host.Outcome.next.inj hu
    rw [returnFrom_pushWord h]
  have call (i : Instr) (target : Addr) (hi : exec i s = .next (callTo target s)) : returnsTo i (s.pc + 3) := by
    have := returns i (s.pc + 2) target hi
    rwa [BitVec.add_assoc] at this
  exact
    ⟨fun nnnn => call (.jsrAbs nnnn) _ rfl, fun nnnn => call (.jsrAbsind nnnn) _ rfl,
      fun nnnn => call (.jsrAbsindx nnnn) _ rfl, fun rrrr => call (.bsr rrrr) _ rfl,
      fun nnnn => returns (.phwImmw nnnn) nnnn _ rfl⟩

/-- Settles O22: each pull meets the state before the push, moved on by one byte, with the byte pushed. -/
theorem aPullReturnsWhatWasPushed : Obligations.APullReturnsWhatWasPushed := by
  intro s h givesBack flagsOf
  have back (push pull : Instr) (v : Byte) (set : State → Byte → State) (p : PFlags)
      (hpush : exec push s = .next ((s.push8 v).advance 1))
      (hpull : ∀ t, exec pull t = .next ((set t.pulled t.pullByte).advance 1))
      (hset : ∀ pc mem, set { s with pc := pc, mem := mem } v = { s with pc := pc, p := p, mem := mem }) :
      givesBack push pull p := by
    intro t u ht hu
    obtain rfl := Host.Outcome.next.inj (hpush.symm.trans ht)
    obtain rfl := Host.Outcome.next.inj ((hpull _).symm.trans hu)
    have hpc : (s.push8 v).pc = s.pc := by rw [State.push8_eq, State.spAdd_pc]
    rw [State.advance_eq (s.push8 v), hpc, State.pulled_push8, State.pullByte_push8 h, hset, State.advance_eq,
      BitVec.add_assoc]
    rfl
  refine
    ⟨back .pha .pla s.a (fun t v => (t.setA v).setNZ v) _ rfl (fun _ => rfl) fun _ _ => rfl,
      back .phx .plx s.x (fun t v => (t.setX v).setNZ v) _ rfl (fun _ => rfl) fun _ _ => rfl,
      back .phy .ply s.y (fun t v => (t.setY v).setNZ v) _ rfl (fun _ => rfl) fun _ _ => rfl,
      back .phz .plz s.z (fun t v => (t.setZ v).setNZ v) _ rfl (fun _ => rfl) fun _ _ => rfl,
      back .php .plp (s.p.pbyte true) (fun t v => t.setFlags (t.p.setP v)) _ rfl (fun t => ?_) fun _ _ => ?_⟩
  · rw [State.pulled_eq, State.spAdd_p]
    rfl
  · simp only [State.setFlags, PFlags.setP_pbyte]

end Sys2Proof.Machine
end

section
/-! Decimal arithmetic, and what V means (`42_arithmetic_logic.md` rules R240 to R242, R280, R281). -/
namespace Sys2Proof.Machine

/-! ### Valid BCD (R242) -/

theorem bcdValid_iff (v : Byte) : bcdValid v = true ↔ v.toNat / 16 ≤ 9 ∧ v.toNat % 16 ≤ 9 := by
  simp [bcdValid]

/-- `bcd(n)` has the two decimal digits of `n` as its nibbles. -/
theorem bcdEnc_digits {n : Nat} (h : n < 100) :
    (bcdEnc n).toNat / 16 = n / 10 ∧ (bcdEnc n).toNat % 16 = n % 10 := by
  have hlt : n / 10 * 16 + n % 10 < 2 ^ 8 := by omega
  rw [bcdEnc, BitVec.toNat_ofNat, Nat.mod_eq_of_lt hlt]
  omega

/-- `dec(v)` as an integer. -/
def decimalValue (v : Byte) : Int := 10 * (v.toNat / 16 : Nat) + (v.toNat % 16 : Nat)

theorem bcdDec_eq_decimalValue (v : Byte) : (bcdDec v : Int) = decimalValue v := by
  rw [bcdDec, decimalValue]
  omega

/-- `bcd` of an integer's residue modulo 100 is valid BCD and stands for the residue. -/
theorem bcdEnc_of_residue {n : Nat} {k : Int} (hk : (n : Int) = k % 100) :
    bcdValid (bcdEnc n) = true ∧ decimalValue (bcdEnc n) = k % 100 := by
  obtain ⟨hten, hone⟩ := bcdEnc_digits (n := n) (by omega)
  rw [bcdValid_iff, decimalValue, hten, hone]
  omega

/-! ### The decimal outcomes -/

theorem drawsAfter_of_valid {s : State} {m : Byte} (hd : s.p.d = true) (ha : bcdValid s.a = true)
    (hm : bcdValid m = true) : drawsAfter m s = s.draws + 1 := by
  simp [drawsAfter, hd, ha, hm]

theorem drawsAfter_of_invalid {s : State} {m : Byte} (h : ¬(bcdValid s.a = true ∧ bcdValid m = true)) :
    drawsAfter m s = s.draws := by
  have : ¬(s.p.d && bcdValid s.a && bcdValid m) = true := by simp_all
  rw [drawsAfter, if_neg this]

theorem adcOutcome_of_valid {s : State} {m : Byte} (hd : s.p.d = true) (ha : bcdValid s.a = true)
    (hm : bcdValid m = true) : adcOutcome m s = addDecimal s.a m s.p.c (Config.freeFlag s.draws) := by
  simp [adcOutcome, hd, ha, hm]

theorem adcOutcome_of_invalid {s : State} {m : Byte} (hd : s.p.d = true)
    (h : ¬(bcdValid s.a = true ∧ bcdValid m = true)) : adcOutcome m s = Config.bcdAdc s.a m s.p.c := by
  rw [adcOutcome, if_pos hd, if_neg (by simpa using h)]

theorem sbcOutcome_of_valid {s : State} {m : Byte} (hd : s.p.d = true) (ha : bcdValid s.a = true)
    (hm : bcdValid m = true) : sbcOutcome m s = subDecimal s.a m s.p.c (Config.freeFlag s.draws) := by
  simp [sbcOutcome, hd, ha, hm]

theorem sbcOutcome_of_invalid {s : State} {m : Byte} (hd : s.p.d = true)
    (h : ¬(bcdValid s.a = true ∧ bcdValid m = true)) : sbcOutcome m s = Config.bcdSbc s.a m s.p.c := by
  rw [sbcOutcome, if_pos hd, if_neg (by simpa using h)]

/-- Decimal addition over the integers (R242). -/
theorem addDecimal_spec (a m : Byte) (c draw : Bool) :
    let total : Int := decimalValue a + decimalValue m + c.toNat
    ∃ r, bcdValid r = true ∧ decimalValue r = total % 100 ∧
      addDecimal a m c draw =
        { value := r, n := r.getLsbD 7, v := draw, z := r == 0, c := decide (99 < total) } := by
  intro total
  have htotal : ((bcdDec a + bcdDec m + c.toNat : Nat) : Int) = total := by
    simp only [total, ← bcdDec_eq_decimalValue, Nat.cast_add]
  obtain ⟨hvalid, hvalue⟩ := bcdEnc_of_residue (n := (bcdDec a + bcdDec m + c.toNat) % 100) (k := total) (by omega)
  have hcarry : 99 < bcdDec a + bcdDec m + c.toNat ↔ 99 < total := by omega
  exact ⟨_, hvalid, hvalue, by simp only [addDecimal, hcarry]⟩

/-- Decimal subtraction over the integers (R281). -/
theorem subDecimal_spec (a m : Byte) (c draw : Bool) :
    let total : Int := decimalValue a - decimalValue m - 1 + c.toNat
    ∃ r, bcdValid r = true ∧ decimalValue r = total % 100 ∧
      subDecimal a m c draw =
        { value := r, n := r.getLsbD 7, v := draw, z := r == 0, c := decide (0 ≤ total) } := by
  intro total
  obtain ⟨hvalid, hvalue⟩ := bcdEnc_of_residue (n := (total % 100).toNat) (k := total) (by omega)
  exact ⟨_, hvalid, hvalue, by simp only [subDecimal, bcdDec_eq_decimalValue, total]⟩

/-! ### Signs (R240) -/

/-- Bit 7 of a byte says whether it is negative as a signed number. -/
theorem getLsbD_seven_eq_neg (v : Byte) : v.getLsbD 7 = decide (v.toInt < 0) := by
  have h : v.getLsbD 7 = v.msb := rfl
  rw [h, BitVec.msb_eq_toInt]

/-- The V of binary addition: the signed sum with the carry does not fit in eight bits. -/
theorem addBinary_v_iff (a m : Byte) (c : Bool) :
    (addBinary a m c).v = true ↔ a.toInt + m.toInt + c.toNat < -128 ∨ 127 < a.toInt + m.toInt + c.toNat := by
  have ha := BitVec.toInt_eq_toNat_cond a
  have hm := BitVec.toInt_eq_toNat_cond m
  have hr := BitVec.toInt_eq_toNat_cond (BitVec.ofNat 8 (a.toNat + m.toNat + c.toNat))
  have hc := c.toNat_le
  rw [BitVec.toNat_ofNat] at hr
  rw [addBinary_eq]
  simp only [getLsbD_seven_eq_neg, Bool.and_eq_true, beq_iff_eq, bne_iff_ne, ne_eq, decide_eq_decide]
  split at ha <;> split at hm <;> split at hr <;> omega

/-! ### The statements -/

/-- Settles O38: subtraction is the addition of the complement, whose signed value is `-m - 1`. -/
theorem theOverflowFlagMeansSignedOverflow : Obligations.TheOverflowFlagMeansSignedOverflow := by
  intro a m c
  refine ⟨addBinary_v_iff a m c, ?_⟩
  have hnot : (~~~m).toInt = -m.toInt - 1 := by
    have hm := BitVec.toInt_eq_toNat_cond m
    have hn := BitVec.toInt_eq_toNat_cond (~~~m)
    rw [BitVec.toNat_not] at hn
    split at hm <;> split at hn <;> omega
  rw [subBinary, addBinary_v_iff, hnot]
  omega

/-- Settles O35: each form is `adcWith` at its source; on valid BCD the result is `bcd` of the sum modulo 100. -/
theorem adcAddsInDecimal : Obligations.AdcAddsInDecimal := by
  intro s hd valid dec adds
  have adc (i : Instr) (src : Source) (h : exec i s = .next (adcWith src s)) :
      adds i (src.load s) (BitVec.ofNat 16 src.length) := by
    rw [adcWith_eq] at h
    refine ⟨fun ⟨ha, hm⟩ => ?_, fun hv => ?_⟩
    · have ha := (bcdValid_iff s.a).2 ha
      have hm := (bcdValid_iff (src.load s)).2 hm
      obtain ⟨r, hr, hvalue, hout⟩ := addDecimal_spec s.a (src.load s) s.p.c (Config.freeFlag s.draws)
      rw [adcOutcome_of_valid hd ha hm, drawsAfter_of_valid hd ha hm, hout] at h
      exact ⟨r, (bcdValid_iff r).1 hr, hvalue, h⟩
    · have hv : ¬(bcdValid s.a = true ∧ bcdValid (src.load s) = true) := by rwa [bcdValid_iff, bcdValid_iff]
      rwa [adcOutcome_of_invalid hd hv, drawsAfter_of_invalid hv] at h
  exact
    ⟨fun nn => adc _ (.mem (.indx nn)) rfl, fun nn => adc _ (.mem (.bp nn)) rfl, fun nn => adc _ (.imm nn) rfl,
      fun nnnn => adc _ (.mem (.abs nnnn)) rfl, fun nn => adc _ (.mem (.indy nn)) rfl,
      fun nn => adc _ (.mem (.indz nn)) rfl, fun nn => adc _ (.mem (.bpx nn)) rfl,
      fun nnnn => adc _ (.mem (.absy nnnn)) rfl, fun nnnn => adc _ (.mem (.absx nnnn)) rfl⟩

/-- Settles O37: each form is `sbcWith` at its source; on valid BCD the result is `bcd` of the difference modulo 100. -/
theorem sbcSubtractsInDecimal : Obligations.SbcSubtractsInDecimal := by
  intro s hd valid dec subtracts
  have sbc (i : Instr) (src : Source) (h : exec i s = .next (sbcWith src s)) :
      subtracts i (src.load s) (BitVec.ofNat 16 src.length) := by
    rw [sbcWith_eq] at h
    refine ⟨fun ⟨ha, hm⟩ => ?_, fun hv => ?_⟩
    · have ha := (bcdValid_iff s.a).2 ha
      have hm := (bcdValid_iff (src.load s)).2 hm
      obtain ⟨r, hr, hvalue, hout⟩ := subDecimal_spec s.a (src.load s) s.p.c (Config.freeFlag s.draws)
      rw [sbcOutcome_of_valid hd ha hm, drawsAfter_of_valid hd ha hm, hout] at h
      exact ⟨r, (bcdValid_iff r).1 hr, hvalue, h⟩
    · have hv : ¬(bcdValid s.a = true ∧ bcdValid (src.load s) = true) := by rwa [bcdValid_iff, bcdValid_iff]
      rwa [sbcOutcome_of_invalid hd hv, drawsAfter_of_invalid hv] at h
  exact
    ⟨fun nn => sbc _ (.mem (.indx nn)) rfl, fun nn => sbc _ (.mem (.bp nn)) rfl, fun nn => sbc _ (.imm nn) rfl,
      fun nnnn => sbc _ (.mem (.abs nnnn)) rfl, fun nn => sbc _ (.mem (.indy nn)) rfl,
      fun nn => sbc _ (.mem (.indz nn)) rfl, fun nn => sbc _ (.mem (.bpx nn)) rfl,
      fun nnnn => sbc _ (.mem (.absy nnnn)) rfl, fun nnnn => sbc _ (.mem (.absx nnnn)) rfl⟩

end Sys2Proof.Machine
end

section
/-! Read-modify-write instructions (`42_arithmetic_logic.md` R249, R250, R255, R256; `43_shift_rotate_bit.md` R300 to
R306, R330, R331): the shifts as arithmetic, and the one or two bytes written. -/
namespace Sys2Proof.Machine

/-! ### Shifts as arithmetic (R300 to R306) -/

/-- A shift left by one doubles, modulo the width. -/
theorem shiftLeft_one_eq_ofNat {w : Nat} (v : BitVec w) : v <<< 1 = BitVec.ofNat w (v.toNat * 2) := by
  apply BitVec.eq_of_toNat_eq
  simp [Nat.shiftLeft_eq]

/-- A rotate left by one doubles and adds the old carry. -/
theorem shiftLeft_one_or_carry_eq_ofNat {w : Nat} (v : BitVec (w + 1)) (c : Bool) :
    v <<< 1 ||| BitVec.ofNat (w + 1) c.toNat = BitVec.ofNat (w + 1) (v.toNat * 2 % 2 ^ (w + 1) + c.toNat) := by
  have hc : c.toNat < 2 ^ 1 := by cases c <;> decide
  have hdouble : v.toNat * 2 % 2 ^ (w + 1) = (v.toNat % 2 ^ w) <<< 1 := by
    rw [Nat.shiftLeft_eq, Nat.pow_one, Nat.pow_succ, Nat.mul_mod_mul_right]
  rw [shiftLeft_one_eq_ofNat, hdouble, Nat.shiftLeft_add_eq_or_of_lt hc, ← hdouble, BitVec.ofNat_or]
  congr 1
  apply BitVec.eq_of_toNat_eq
  simp

/-- A shift right by one halves. -/
theorem ushiftRight_one_eq_ofNat {w : Nat} (v : BitVec w) : v >>> 1 = BitVec.ofNat w (v.toNat / 2) := by
  apply BitVec.eq_of_toNat_eq
  rw [BitVec.toNat_ushiftRight, BitVec.toNat_ofNat, Nat.shiftRight_eq_div_pow, Nat.pow_one,
    Nat.mod_eq_of_lt (lt_of_le_of_lt (Nat.div_le_self _ _) v.isLt)]

/-- A rotate right of a byte by one halves and puts the old carry in bit 7. -/
theorem ushiftRight_one_or_carry_eq_ofNat (v : Byte) (c : Bool) :
    v >>> 1 ||| BitVec.ofNat 8 (c.toNat * 128) = BitVec.ofNat 8 (c.toNat * 128 + v.toNat / 2) := by
  have hv : v.toNat / 2 < 2 ^ 7 := by have := v.isLt; omega
  have hc : c.toNat * 128 = c.toNat <<< 7 := (Nat.shiftLeft_eq c.toNat 7).symm
  rw [ushiftRight_one_eq_ofNat, hc, Nat.shiftLeft_add_eq_or_of_lt hv, BitVec.ofNat_or, BitVec.or_comm]

/-- An arithmetic shift right of a byte by one halves and keeps bit 7. -/
theorem sshiftRight_one_eq_ofNat (v : Byte) : v.sshiftRight 1 = BitVec.ofNat 8 (v.toNat / 128 * 128 + v.toNat / 2) := by
  apply BitVec.eq_of_toNat_eq
  have hv := BitVec.toInt_eq_toNat_cond v
  rw [BitVec.sshiftRight, BitVec.toNat_ofInt, BitVec.toNat_ofNat, Int.shiftRight_eq_div_pow]
  split at hv <;> omega

/-- The result and the bit shifted out of each byte shift, as arithmetic on the operand and the old carry. -/
structure ShiftsBy (op : Byte → Bool → Byte × Bool) (result : Bool → Nat → Nat) (out : Nat) : Prop where
  value : ∀ v c, (op v c).1 = BitVec.ofNat 8 (result c v.toNat)
  carry : ∀ v c, (op v c).2 = v.getLsbD out

theorem aslByte_shiftsBy : ShiftsBy aslByte (fun _ v => v * 2) 7 :=
  ⟨fun v _ => shiftLeft_one_eq_ofNat v, fun _ _ => rfl⟩

theorem asrByte_shiftsBy : ShiftsBy asrByte (fun _ v => v / 128 * 128 + v / 2) 0 :=
  ⟨fun v _ => sshiftRight_one_eq_ofNat v, fun _ _ => rfl⟩

theorem lsrByte_shiftsBy : ShiftsBy lsrByte (fun _ v => v / 2) 0 :=
  ⟨fun v _ => ushiftRight_one_eq_ofNat v, fun _ _ => rfl⟩

theorem rolByte_shiftsBy : ShiftsBy rolByte (fun c v => v * 2 % 256 + c.toNat) 7 :=
  ⟨fun v c => shiftLeft_one_or_carry_eq_ofNat v c, fun _ _ => rfl⟩

theorem rorByte_shiftsBy : ShiftsBy rorByte (fun c v => c.toNat * 128 + v / 2) 0 :=
  ⟨fun v c => ushiftRight_one_or_carry_eq_ofNat v c, fun _ _ => rfl⟩

theorem rowWord_eq_ofNat (w : Addr) (c : Bool) :
    (rowWord w c).1 = BitVec.ofNat 16 (w.toNat * 2 % 65536 + c.toNat) :=
  shiftLeft_one_or_carry_eq_ofNat (w := 15) w c

/-! ### Words of memory (R250, R256, R302, R306) -/

/-- Bit 15 of a word says whether it is at least 32768. -/
theorem getLsbD_fifteen_eq (w : Addr) : w.getLsbD 15 = decide (32768 ≤ w.toNat) := BitVec.msb_eq_decide w

/-- A word's flags and its two bytes, as arithmetic on the number it is. -/
theorem PFlags.setNZ16_eq (p : PFlags) (w : Addr) :
    p.setNZ16 w = { p with n := decide (32768 ≤ w.toNat), z := decide (w.toNat = 0) } := by
  have hz : (w == 0) = decide (w.toNat = 0) := by
    rw [Bool.eq_iff_iff, beq_iff_eq, decide_eq_true_iff]
    exact BitVec.toNat_inj.symm
  rw [PFlags.setNZ16, getLsbD_fifteen_eq, hz]

theorem loByte_eq_ofNat (w : Addr) : loByte w = BitVec.ofNat 8 (w.toNat % 256) := by
  rw [← loByte_toNat, BitVec.ofNat_toNat, BitVec.setWidth_eq]

theorem hiByte_eq_ofNat (w : Addr) : hiByte w = BitVec.ofNat 8 (w.toNat / 256) := by
  rw [← hiByte_toNat, BitVec.ofNat_toNat, BitVec.setWidth_eq]

/-- INW and DEW write the two bytes of the word, the low byte first. -/
theorem modifyBpWord_wroteOnly (op : Addr → Addr) (nn : Byte) (s : State) :
    s.wroteOnly (modifyBpWord op nn s)
      [(s.progCell .write (s.bpAddr nn), loByte (op (s.bpWord nn))),
        (s.progCell .write (s.bpAddr (nn + 1)), hiByte (op (s.bpWord nn)))] :=
  State.wroteOnly_write (State.wroteOnly_one (t := s.writeByte (s.bpAddr nn) (loByte (op (s.bpWord nn)))) _ _ rfl) _ _
    (congrArg State.mem (modifyBpWord_eq op nn s))

/-- ASW and ROW write the two bytes of the word, the low byte first. -/
theorem shiftAbsWord_wroteOnly (op : Addr → Bool → Addr × Bool) (nnnn : Addr) (s : State) :
    s.wroteOnly (shiftAbsWord op nnnn s)
      [(s.progCell .write nnnn, loByte (op (s.readWord nnnn) s.p.c).1),
        (s.progCell .write (nnnn + 1), hiByte (op (s.readWord nnnn) s.p.c).1)] :=
  State.wroteOnly_write
    (State.wroteOnly_one (t := s.writeByte nnnn (loByte (op (s.readWord nnnn) s.p.c).1)) _ _ rfl) _ _
    (congrArg State.mem (shiftAbsWord_eq op nnnn s))

/-! ### The statements -/

/-- Settles O43: each form is `modifyWith` on its memory operand. -/
theorem incAndDecChangeAByteOfMemory : Obligations.IncAndDecChangeAByteOfMemory := by
  intro s changes
  have modify (op : Byte → Byte) (i : Instr) (m : MemForm) (h : exec i s = .next (modifyWith op (.mem m) s)) :
      changes i m op (BitVec.ofNat 16 m.length) :=
    ⟨_, h, by rw [modifyWith_mem]; rfl, State.wroteOnly_one _ _ (by rw [modifyWith_mem])⟩
  have inc := modify (· + 1)
  have dec := modify (· - 1)
  exact
    ⟨fun nn => inc _ (.bp nn) rfl, fun nnnn => inc _ (.abs nnnn) rfl, fun nn => inc _ (.bpx nn) rfl,
      fun nnnn => inc _ (.absx nnnn) rfl, fun nn => dec _ (.bp nn) rfl, fun nnnn => dec _ (.abs nnnn) rfl,
      fun nn => dec _ (.bpx nn) rfl, fun nnnn => dec _ (.absx nnnn) rfl⟩

/-- Settles O45: each instruction is `shiftWith` on the accumulator, its operation said as arithmetic. -/
theorem shiftsMoveTheAccumulatorByOneBit : Obligations.ShiftsMoveTheAccumulatorByOneBit := by
  intro s shifts
  have shift {op : Byte → Bool → Byte × Bool} {result : Bool → Nat → Nat} {out : Nat} (hop : ShiftsBy op result out)
      (i : Instr) (h : exec i s = .next (shiftWith op .acc s)) : shifts i (result s.p.c) out := by
    rw [shiftWith_acc, hop.value, hop.carry] at h
    exact h
  have asl := shift aslByte_shiftsBy
  have asr := shift asrByte_shiftsBy
  have lsr := shift lsrByte_shiftsBy
  have rol := shift rolByte_shiftsBy
  have ror := shift rorByte_shiftsBy
  exact
    ⟨asl _ rfl, asr _ rfl, lsr _ rfl,
      rol _ rfl, ror _ rfl⟩

/-- Settles O46: each instruction is `shiftWith` on its memory operand, its operation said as arithmetic. -/
theorem shiftsMoveAByteOfMemoryByOneBit : Obligations.ShiftsMoveAByteOfMemoryByOneBit := by
  intro s shifts
  have shift {op : Byte → Bool → Byte × Bool} {result : Bool → Nat → Nat} {out : Nat} (hop : ShiftsBy op result out)
      (i : Instr) (m : MemForm) (h : exec i s = .next (shiftWith op (.mem m) s)) :
      shifts i m (result s.p.c) out (BitVec.ofNat 16 m.length) := by
    rw [shiftWith_mem, hop.value, hop.carry] at h
    exact ⟨_, h, rfl, State.wroteOnly_one _ _ rfl⟩
  have asl := shift aslByte_shiftsBy
  have asr := shift asrByte_shiftsBy
  have lsr := shift lsrByte_shiftsBy
  have rol := shift rolByte_shiftsBy
  have ror := shift rorByte_shiftsBy
  exact
    ⟨fun nn => asl _ (.bp nn) rfl, fun nnnn => asl _ (.abs nnnn) rfl,
      fun nn => asl _ (.bpx nn) rfl, fun nnnn => asl _ (.absx nnnn) rfl,
      fun nn => asr _ (.bp nn) rfl, fun nn => asr _ (.bpx nn) rfl,
      fun nn => lsr _ (.bp nn) rfl, fun nnnn => lsr _ (.abs nnnn) rfl,
      fun nn => lsr _ (.bpx nn) rfl, fun nnnn => lsr _ (.absx nnnn) rfl,
      fun nn => rol _ (.bp nn) rfl, fun nnnn => rol _ (.abs nnnn) rfl,
      fun nn => rol _ (.bpx nn) rfl, fun nnnn => rol _ (.absx nnnn) rfl,
      fun nn => ror _ (.bp nn) rfl, fun nnnn => ror _ (.abs nnnn) rfl,
      fun nn => ror _ (.bpx nn) rfl, fun nnnn => ror _ (.absx nnnn) rfl⟩

/-- Settles O44: each word is read and written by its two bytes, its operation said as arithmetic on the number it
is. -/
theorem wordInstructionsChangeAWordOfMemory : Obligations.WordInstructionsChangeAWordOfMemory := by
  intro s changes
  have count (i : Instr) (nn : Byte) (op : Addr → Addr) (k : Addr) (hop : ∀ w, op w = w + k)
      (h : exec i s = .next (modifyBpWord op nn s)) :
      changes i (s.bpAddr nn) (s.bpAddr (nn + 1)) (· + k.toNat) (fun _ => s.p.c) 2 := by
    have hr : (op (s.bpWord nn)).toNat =
        ((s.readByte (s.bpAddr (nn + 1))).toNat * 256 + (s.readByte (s.bpAddr nn)).toNat + k.toNat) % 65536 := by
      rw [hop, BitVec.toNat_add, State.bpWord, wordOf_toNat]
    refine ⟨_, h, ?_, ?_⟩
    · rw [modifyBpWord_eq, PFlags.setNZ16_eq, hr]
    · have hw := modifyBpWord_wroteOnly op nn s
      rwa [loByte_eq_ofNat, hiByte_eq_ofNat, hr] at hw
  have shift (i : Instr) (nnnn : Addr) (op : Addr → Bool → Addr × Bool) (result : Nat → Nat)
      (h : exec i s = .next (shiftAbsWord op nnnn s))
      (hop : ∀ w, (op w s.p.c).1 = BitVec.ofNat 16 (result w.toNat)) (hout : ∀ w, (op w s.p.c).2 = w.getLsbD 15) :
      changes i nnnn (nnnn + 1) result (fun w => decide (32768 ≤ w)) 3 := by
    have hw : (s.readWord nnnn).toNat = (s.readByte (nnnn + 1)).toNat * 256 + (s.readByte nnnn).toNat :=
      wordOf_toNat _ _
    have hr : (op (s.readWord nnnn) s.p.c).1.toNat =
        result ((s.readByte (nnnn + 1)).toNat * 256 + (s.readByte nnnn).toNat) % 65536 := by
      rw [hop, BitVec.toNat_ofNat, hw]
    refine ⟨_, h, ?_, ?_⟩
    · rw [shiftAbsWord_eq, PFlags.setNZ16_eq, hr, hout, getLsbD_fifteen_eq, hw]
    · have hwrote := shiftAbsWord_wroteOnly op nnnn s
      rwa [loByte_eq_ofNat, hiByte_eq_ofNat, hr] at hwrote
  exact
    ⟨fun nn => count (.inw nn) nn (· + 1) 1 (fun _ => rfl) rfl,
      fun nn => count (.dew nn) nn (· - 1) (-1) (fun w => BitVec.sub_eq_add_neg w 1) rfl,
      fun nnnn => shift (.asw nnnn) nnnn aswWord (· * 2) rfl (fun w => shiftLeft_one_eq_ofNat w) fun _ => rfl,
      fun nnnn =>
        shift (.row nnnn) nnnn rowWord (fun w => w * 2 % 65536 + s.p.c.toNat) rfl
          (fun w => rowWord_eq_ofNat w s.p.c) fun _ => rfl⟩

/-- Settles O49: each form is `testAndModify` of its operation on its memory operand. -/
theorem testAndModifyTestsBeforeItWrites : Obligations.TestAndModifyTestsBeforeItWrites := by
  intro s changes
  have modify (op : Byte → Byte → Byte) (i : Instr) (m : MemForm) (h : exec i s = .next (testAndModify op m s)) :
      changes i m (op s.a (m.load s)) (BitVec.ofNat 16 m.length) :=
    ⟨_, h, by rw [testAndModify_eq], State.wroteOnly_one _ _ (by rw [testAndModify_eq])⟩
  have trb := modify fun a v => v &&& ~~~a
  have tsb := modify fun a v => v ||| a
  exact
    ⟨fun nn => trb _ (.bp nn) rfl, fun nnnn => trb _ (.abs nnnn) rfl, fun nn => tsb _ (.bp nn) rfl,
      fun nnnn => tsb _ (.abs nnnn) rfl⟩

end Sys2Proof.Machine
end

section
/-! The flag byte, effective addresses, translation, and single instructions: BIT, TSX, the branches, MAP and EOM
(`10_state.md` R33, R35; `40_addressing_modes.md` section 2; `20_memory.md` sections 3 and 6). -/
namespace Sys2Proof.Machine

/-! ### Addresses as numbers (R142 to R162) -/

theorem wordOf_eq_ofNat (hi lo : Byte) : wordOf hi lo = BitVec.ofNat 16 (hi.toNat * 256 + lo.toNat) := by
  rw [← wordOf_toNat, BitVec.ofNat_toNat, BitVec.setWidth_eq]

/-- The byte of the base page at an offset modulo 256, as a number. -/
def State.pageByte (s : State) (d : Nat) : Nat :=
  (s.readByte (BitVec.ofNat 16 (s.b.toNat * 256 + d % 256))).toNat

/-- The sum of two byte offsets, as the offset of their sum. -/
theorem add_eq_ofNat (d e : Byte) : d + e = BitVec.ofNat 8 (d.toNat + e.toNat) := by
  rw [BitVec.ofNat_add, BitVec.ofNat_toNat, BitVec.ofNat_toNat, BitVec.setWidth_eq, BitVec.setWidth_eq]

/-- The offset of a base-page byte counts modulo 256 (R142). -/
theorem State.bpAddr_ofNat (s : State) (d : Nat) :
    s.bpAddr (BitVec.ofNat 8 d) = BitVec.ofNat 16 (s.b.toNat * 256 + d % 256) := by
  rw [State.bpAddr, wordOf_eq_ofNat, BitVec.toNat_ofNat]

theorem State.readByte_bpAddr (s : State) {d : Byte} {n : Nat} (h : d = BitVec.ofNat 8 n) :
    (s.readByte (s.bpAddr d)).toNat = s.pageByte n := by
  rw [h, State.bpAddr_ofNat, State.pageByte]

/-- A number added to a word that is given as a number. -/
theorem ofNat_add_literal {w n k : Nat} {v : BitVec w} (h : v = BitVec.ofNat w n) :
    v + BitVec.ofNat w k = BitVec.ofNat w (n + k) := by
  rw [h, BitVec.ofNat_add]

/-- A word is its number. -/
theorem eq_ofNat_of_toNat {w n : Nat} {v : BitVec w} (h : v.toNat = n) : v = BitVec.ofNat w n := by
  rw [← h, BitVec.ofNat_toNat, BitVec.setWidth_eq]

/-- A base-page word as a number; its second byte wraps in the page (R162). -/
theorem State.bpWord_toNat (s : State) {d : Byte} {n : Nat} (h : d = BitVec.ofNat 8 n) :
    (s.bpWord d).toNat = s.pageByte (n + 1) * 256 + s.pageByte n := by
  have h1 : d + 1 = BitVec.ofNat 8 (n + 1) := ofNat_add_literal h
  rw [State.bpWord, wordOf_toNat, s.readByte_bpAddr h1, s.readByte_bpAddr h]

/-- A word moved by an unsigned byte, from the number it is. -/
theorem add_zext16_of_toNat {a : Addr} {n : Nat} (h : a.toNat = n) (v : Byte) :
    a + zext16 v = BitVec.ofNat 16 (n + v.toNat) := by
  rw [add_zext16_eq_ofNat, h]

/-- The four bytes of a 32-bit pointer, as a number (R155). -/
theorem pointer32_eq_ofNat (p3 p2 p1 p0 : Byte) :
    pointer32 p3 p2 p1 p0 =
      BitVec.ofNat 32 (p3.toNat * 2 ^ 24 + p2.toNat * 2 ^ 16 + p1.toNat * 2 ^ 8 + p0.toNat) := by
  have happend {w : Nat} (x : BitVec w) (y : Byte) : (x ++ y).toNat = x.toNat * 2 ^ 8 + y.toNat := by
    rw [BitVec.toNat_append, ← Nat.shiftLeft_add_eq_or_of_lt y.isLt, Nat.shiftLeft_eq]
  apply BitVec.eq_of_toNat_eq
  have h3 := p3.isLt
  have h2 := p2.isLt
  have h1 := p1.isLt
  have h0 := p0.isLt
  rw [pointer32, happend, happend, happend, BitVec.toNat_ofNat]
  omega

/-- The 32-bit pointer in the base page and the index Z, as one number (R155). -/
theorem State.bpPointer32_add_z (s : State) (d : Byte) :
    s.bpPointer32 d + s.z.zeroExtend 32 =
      BitVec.ofNat 32 (s.pageByte (d.toNat + 3) * 2 ^ 24 + s.pageByte (d.toNat + 2) * 2 ^ 16 +
        s.pageByte (d.toNat + 1) * 2 ^ 8 + s.pageByte d.toNat + s.z.toNat) := by
  have hz : s.z.zeroExtend 32 = BitVec.ofNat 32 s.z.toNat := (BitVec.ofNat_toNat 32 s.z).symm
  have hd : d = BitVec.ofNat 8 d.toNat := eq_ofNat_of_toNat rfl
  have h1 : d + 1 = BitVec.ofNat 8 (d.toNat + 1) := ofNat_add_literal hd
  have h2 : d + 2 = BitVec.ofNat 8 (d.toNat + 2) := ofNat_add_literal hd
  have h3 : d + 3 = BitVec.ofNat 8 (d.toNat + 3) := ofNat_add_literal hd
  rw [State.bpPointer32, pointer32_eq_ofNat, hz, ← BitVec.ofNat_add, s.readByte_bpAddr h3, s.readByte_bpAddr h2,
    s.readByte_bpAddr h1, s.readByte_bpAddr hd]

/-- A word read at a program address given as a number, as a number. -/
theorem State.readWord_toNat (s : State) {a : Addr} {n : Nat} (h : a = BitVec.ofNat 16 n) :
    (s.readWord a).toNat =
      (s.readByte (BitVec.ofNat 16 (n + 1))).toNat * 256 + (s.readByte (BitVec.ofNat 16 n)).toNat := by
  rw [State.readWord, wordOf_toNat, show a + 1 = BitVec.ofNat 16 (n + 1) from ofNat_add_literal h, h]

/-- Settles O28: each effective address, its sums of bytes and words read as sums of numbers. -/
theorem effectiveAddressesOfTheOperandForms : Obligations.EffectiveAddressesOfTheOperandForms := by
  intro s page stack bpByte byteAt prog
  have hprog {a : Addr} {n : Nat} (h : a = BitVec.ofNat 16 n) : Place.prog a = prog n := congrArg Place.prog h
  have hindexed (nn v : Byte) : s.bpAddr (nn + v) = BitVec.ofNat 16 (page + (nn.toNat + v.toNat) % 256) := by
    rw [add_eq_ofNat, State.bpAddr_ofNat]
  have hptr (nn : Byte) : (s.bpWord nn).toNat = bpByte (nn.toNat + 1) * 256 + bpByte nn.toNat :=
    s.bpWord_toNat (eq_ofNat_of_toNat rfl)
  have hptrx (nn : Byte) : (s.bpWord (nn + s.x)).toNat =
      bpByte (nn.toNat + s.x.toNat + 1) * 256 + bpByte (nn.toNat + s.x.toNat) :=
    s.bpWord_toNat (add_eq_ofNat nn s.x)
  have hword {a : Addr} {n : Nat} (h : a = BitVec.ofNat 16 n) :
      (s.readWord a).toNat = byteAt (n + 1) * 256 + byteAt n := s.readWord_toNat h
  have hstack (nn : Byte) : s.sp + zext16 nn = BitVec.ofNat 16 (stack + nn.toNat) :=
    add_zext16_of_toNat (State.sp_toNat s) nn
  refine ⟨fun nn => hprog (wordOf_eq_ofNat ..), fun nn => hprog (hindexed nn s.x), fun nn => hprog (hindexed nn s.y),
    fun nnnn => hprog (eq_ofNat_of_toNat rfl), fun nnnn => hprog (add_zext16_of_toNat rfl s.x),
    fun nnnn => hprog (add_zext16_of_toNat rfl s.y), fun nn => hprog (eq_ofNat_of_toNat (hptrx nn)),
    fun nn => hprog (add_zext16_of_toNat (hptr nn) s.y), fun nn => ?_,
    fun nn => hprog (add_zext16_of_toNat (hword (hstack nn)) s.y), fun nnnn => rfl,
    fun nnnn => hword (eq_ofNat_of_toNat rfl), fun nnnn => hword (add_zext16_of_toNat rfl s.x), hptr⟩
  rw [MemForm.place, State.bpPointer32_add_z, add_zext16_of_toNat (hptr nn)]
  rfl

/-! ### Translation (R62 to R64, R70) -/

/-- The C65 translation as arithmetic: a marked block is moved modulo 2^20, and no other (93_ G4). -/
theorem c65Translate_toNat (ma mx my mz : Byte) (a : Addr) :
    (c65Translate ma mx my mz a).toNat =
      let block := a.toNat / 8192
      let offset :=
        if block < 4 then mx.toNat % 16 * 65536 + ma.toNat * 256 else mz.toNat % 16 * 65536 + my.toNat * 256
      let marked := if block < 4 then mx.getLsbD (4 + block) else mz.getLsbD block
      if marked then (a.toNat + offset) % 2 ^ 20 else a.toNat := by
  have ha := a.isLt
  simp only [c65Translate]
  by_cases hblock : a.toNat / 8192 < 4
  · simp only [hblock, if_true]
    split <;> rw [BitVec.toNat_ofNat] <;> omega
  · simp only [hblock, if_false]
    split <;> rw [BitVec.toNat_ofNat] <;> omega

/-- Settles O29: the accesses by definition, the C65 map by its arithmetic. -/
theorem accessesGoThroughTheMap : Obligations.AccessesGoThroughTheMap := by
  refine ⟨fun s a f v => ?_, fun ma mx my mz kind a => c65Translate_toNat ma mx my mz a, fun kind a => ?_⟩
  · exact ⟨rfl, rfl, rfl, rfl, Place.store_wroteOnly s v (.prog a), Place.store_wroteOnly s v (.flat f)⟩
  · rw [translate, c65Translate_unmapped]
    exact BitVec.toNat_setWidth_of_le (by decide)

/-! ### The flag byte and single instructions -/

/-- Settles O27: the byte pushed at each of the flags' combinations; restoring is by definition. -/
theorem theFlagByteHasItsLayout : Obligations.TheFlagByteHasItsLayout := by
  intro p brk v
  refine ⟨?_, rfl⟩
  rcases p with ⟨_ | _, _ | _, _ | _, _ | _, _ | _, _ | _, _ | _⟩ <;> cases brk <;> decide

/-- Settles O33: TSX sets X from SPL, then `SetNZ` of it, then moves past one byte. -/
theorem tsxReadsTheLowByteOfTheStackPointer : Obligations.TsxReadsTheLowByteOfTheStackPointer := fun s =>
  congrArg Host.Outcome.next (State.setNZ_advance_eq (s.setX s.spl) s.spl 1)

/-- Settles O40: each form is `bitWith` at its source. -/
theorem bitTestsTheOperand : Obligations.BitTestsTheOperand := by
  intro s tests
  have bit (i : Instr) (src : Source) (h : exec i s = .next (bitWith src s)) :
      tests i (src.load s) (BitVec.ofNat 16 src.length) := h.trans (congrArg _ (bitWith_eq src s))
  exact
    ⟨fun nn => bit _ (.mem (.bp nn)) rfl, fun nnnn => bit _ (.mem (.abs nnnn)) rfl,
      fun nn => bit _ (.mem (.bpx nn)) rfl, fun nnnn => bit _ (.mem (.absx nnnn)) rfl, fun nn => bit _ (.imm nn) rfl⟩

/-- The target of a byte-relative branch: the signed displacement counts from the address plus 2 (R159, D13). -/
theorem relTarget_eq_ofInt (pc0 : Addr) (rr : Byte) :
    relTarget pc0 rr = BitVec.ofInt 16 (pc0.toNat + 2 + rr.toInt) :=
  (add_sext16_eq_ofInt (pc0 + 2) rr).trans (ofInt_toNat_add pc0 2 rr.toInt)

/-- Settles O52: each branch is `branchRel` or `branchRelw` of its condition, the target as a number. -/
theorem branchesFollowTheirCondition : Obligations.BranchesFollowTheirCondition := by
  intro s byteForm wordForm
  have rel (i : Instr) (cond : Bool) (rr : Byte) (h : exec i s = .next (branchRel cond rr s)) :
      byteForm i cond rr := by rwa [branchRel_eq, relTarget_eq_ofInt] at h
  have relw (i : Instr) (cond : Bool) (rrrr : Addr) (h : exec i s = .next (branchRelw cond rrrr s)) :
      wordForm i cond rrrr := by rwa [branchRelw_eq, relwTarget_eq_ofNat] at h
  exact
    ⟨fun rr => rel _ _ rr rfl, fun rrrr => relw _ _ rrrr rfl, fun rr => rel _ _ rr rfl, fun rrrr => relw _ _ rrrr rfl,
      fun rr => rel _ _ rr rfl, fun rrrr => relw _ _ rrrr rfl, fun rr => rel _ _ rr rfl,
      fun rrrr => relw _ _ rrrr rfl, fun rr => rel _ _ rr rfl, fun rrrr => relw _ _ rrrr rfl,
      fun rr => rel _ _ rr rfl, fun rrrr => relw _ _ rrrr rfl, fun rr => rel _ _ rr rfl,
      fun rrrr => relw _ _ rrrr rfl, fun rr => rel _ _ rr rfl, fun rrrr => relw _ _ rrrr rfl,
      fun rr => rel _ _ rr rfl, fun rrrr => relw _ _ rrrr rfl⟩

/-- Settles O60: both instructions by definition, the C65 latch by that of the map. -/
theorem mapAndEomSetTheMapAndTheHiddenBits : Obligations.MapAndEomSetTheMapAndTheHiddenBits := fun _ =>
  ⟨rfl, rfl, fun _ _ _ _ => rfl⟩

end Sys2Proof.Machine
end

section
/-! What any instruction can do to the state (`10_state.md` rules R21 to R38): all but thirteen leave the control state
and the flags E, D and I alone, and each of the thirteen has its own next state. The statements about every
instruction and every step are read off this. -/
namespace Sys2Proof.Machine

/-- The opcodes of the instructions that write P.V (R29). -/
def overflowWriters : List Byte :=
  [0x61, 0x65, 0x69, 0x6D, 0x71, 0x72, 0x75, 0x79, 0x7D, 0xE1, 0xE5, 0xE9, 0xED, 0xF1, 0xF2, 0xF5, 0xF9, 0xFD, 0x24,
    0x2C, 0x34, 0x3C, 0x89, 0xB8, 0x28, 0x40]

/-- The opcodes of the instructions that write P.C (R28). -/
def carryWriters : List Byte :=
  [0x61, 0x65, 0x69, 0x6D, 0x71, 0x72, 0x75, 0x79, 0x7D, 0xE1, 0xE5, 0xE9, 0xED, 0xF1, 0xF2, 0xF5, 0xF9, 0xFD, 0xC1,
    0xC5, 0xC9, 0xCD, 0xD1, 0xD2, 0xD5, 0xD9, 0xDD, 0xE0, 0xE4, 0xEC, 0xC0, 0xC4, 0xCC, 0xC2, 0xD4, 0xDC, 0x06, 0x0A,
    0x0E, 0x16, 0x1E, 0x26, 0x2A, 0x2E, 0x36, 0x3E, 0xCB, 0xEB, 0x43, 0x44, 0x54, 0x46, 0x4A, 0x4E, 0x56, 0x5E, 0x66,
    0x6A, 0x6E, 0x76, 0x7E, 0x18, 0x38, 0x28, 0x40]

/-- The instructions that write control state, SPH directly, or one of the flags E, D and I. -/
def isControl : Instr → Bool
  | .tab | .map | .eom | .see | .cle | .sed | .cld | .sei | .cli | .plp | .rti | .brk | .tys => true
  | _ => false

/-- From `s` to `t` no more has changed than A, X, Y, Z, the stack pointer, PC, the flags N, V, Z, C, the memory and the
count of draws; the invariant is kept, SPH too while P.E is 1, and V and C are written by their writers only. -/
structure Ordinary (i : Instr) (s t : State) : Prop where
  frame : t = { s with
    a := t.a, x := t.x, y := t.y, z := t.z, sph := t.sph, spl := t.spl, pc := t.pc
    p := { s.p with n := t.p.n, v := t.p.v, z := t.p.z, c := t.p.c }, mem := t.mem, draws := t.draws }
  inv : s.inv = true → t.inv = true
  sph : s.p.e = true → t.sph = s.sph
  overflow : t.p.v = s.p.v ∨ overflowWriters.contains i.opcode = true
  carry : t.p.c = s.p.c ∨ carryWriters.contains i.opcode = true

section Effects

variable {i : Instr} {s t : State}

/-! ### The shared operations of the families -/

/-- An operation that writes neither memory nor SPH. -/
theorem Ordinary.of_registers
    (h : t = { s with
      a := t.a, x := t.x, y := t.y, z := t.z, spl := t.spl, pc := t.pc
      p := { s.p with n := t.p.n, v := t.p.v, z := t.p.z, c := t.p.c }, draws := t.draws })
    (hv : t.p.v = s.p.v ∨ overflowWriters.contains i.opcode = true)
    (hc : t.p.c = s.p.c ∨ carryWriters.contains i.opcode = true) : Ordinary i s t where
  frame := by rw [h]
  inv hs := by rw [h]; exact hs
  sph _ := by rw [h]
  overflow := hv
  carry := hc

/-- An operation that writes memory and neither a register nor V. -/
theorem Ordinary.of_memory
    (h : t = { s with pc := t.pc, p := { s.p with n := t.p.n, z := t.p.z, c := t.p.c }, mem := t.mem })
    (hinv : s.inv = true → t.inv = true)
    (hc : t.p.c = s.p.c ∨ carryWriters.contains i.opcode = true) : Ordinary i s t where
  frame := by rw [h]
  inv := hinv
  sph _ := by rw [h]
  overflow := .inl (by rw [h])
  carry := hc

theorem State.spAdd_sph_of_e (h : s.p.e = true) (k : Addr) : (s.spAdd k).sph = s.sph := by
  rw [State.spAdd_of_e h]

/-- An operation that moves the stack pointer. -/
theorem Ordinary.of_stack (k : Addr)
    (h : t = { s with
      a := t.a, x := t.x, y := t.y, z := t.z, sph := (s.spAdd k).sph, spl := (s.spAdd k).spl, pc := t.pc
      p := { s.p with n := t.p.n, z := t.p.z }, mem := t.mem })
    (hinv : s.inv = true → t.inv = true) : Ordinary i s t where
  frame := by rw [h]
  inv := hinv
  sph he := by rw [h]; exact State.spAdd_sph_of_e he k
  overflow := .inl (by rw [h])
  carry := .inl (by rw [h])

theorem branchRel_ordinary (cond : Bool) (rr : Byte) : Ordinary i s (branchRel cond rr s) := by
  rw [branchRel_eq]
  exact .of_registers rfl (.inl rfl) (.inl rfl)

theorem branchRelw_ordinary (cond : Bool) (rrrr : Addr) : Ordinary i s (branchRelw cond rrrr s) := by
  rw [branchRelw_eq]
  exact .of_registers rfl (.inl rfl) (.inl rfl)

theorem branchOnBit_ordinary (n : Nat) (taken : Bool) (nn rr : Byte) :
    Ordinary i s (branchOnBit n taken nn rr s) := by
  rw [branchOnBit_eq]
  exact .of_registers rfl (.inl rfl) (.inl rfl)

theorem storeTo_ordinary (m : MemForm) (v : Byte) : Ordinary i s (storeTo m v s) :=
  .of_memory (by rw [storeTo_eq]) (fun h => MemForm.inv_store h v m) (.inl (by rw [storeTo_eq]))

theorem modifyWith_mem_ordinary (op : Byte → Byte) (m : MemForm) : Ordinary i s (modifyWith op (.mem m) s) :=
  .of_memory (by rw [modifyWith_mem]; rfl) (fun h => Target.inv_store h (op (m.load s)) (.mem m))
    (.inl (by rw [modifyWith_mem]; rfl))

theorem modifyBpByte_ordinary (op : Byte → Byte) (nn : Byte) : Ordinary i s (modifyBpByte op nn s) :=
  .of_memory rfl (fun h => State.inv_writeByte h _ _) (.inl rfl)

theorem testAndModify_ordinary (op : Byte → Byte → Byte) (m : MemForm) : Ordinary i s (testAndModify op m s) :=
  .of_memory (by rw [testAndModify_eq]) (fun h => MemForm.inv_store h (op s.a (m.load s)) m)
    (.inl (by rw [testAndModify_eq]))

theorem shiftWith_mem_ordinary (hc : carryWriters.contains i.opcode = true) (op : Byte → Bool → Byte × Bool)
    (m : MemForm) : Ordinary i s (shiftWith op (.mem m) s) :=
  .of_memory (by rw [shiftWith_mem]; rfl) (fun h => Target.inv_store h (op (m.load s) s.p.c).1 (.mem m)) (.inr hc)

theorem modifyBpWord_ordinary (op : Addr → Addr) (nn : Byte) : Ordinary i s (modifyBpWord op nn s) :=
  .of_memory rfl (fun h => State.inv_writeByte (State.inv_writeByte h _ _) _ _) (.inl rfl)

theorem shiftAbsWord_ordinary (hc : carryWriters.contains i.opcode = true) (op : Addr → Bool → Addr × Bool)
    (nnnn : Addr) : Ordinary i s (shiftAbsWord op nnnn s) :=
  .of_memory rfl (fun h => State.inv_writeByte (State.inv_writeByte h _ _) _ _) (.inr hc)

theorem push8_ordinary (v : Byte) (len : Nat) : Ordinary i s ((s.push8 v).advance len) :=
  .of_stack (-1) (by rw [State.push8_advance_frame]) fun h => State.inv_push8 h v

theorem pushWord_ordinary (w : Addr) (len : Nat) : Ordinary i s ((s.pushWord w).advance len) :=
  .of_stack (-2) (by rw [State.pushWord_advance_frame]) fun h => State.inv_pushWord h w

theorem callTo_ordinary (target : Addr) : Ordinary i s (callTo target s) :=
  .of_stack (-2) (by rw [callTo_frame]) fun h => State.inv_pushWord h (s.pc + 2)

theorem returnFrom_ordinary : Ordinary i s (returnFrom s) :=
  .of_stack 2 (by rw [returnFrom_frame]) fun h => by rw [returnFrom_frame]; exact h

theorem returnAdjusting_ordinary (nn : Byte) : Ordinary i s (returnAdjusting nn s) :=
  .of_stack (zext16 nn + 2) (by rw [returnAdjusting_frame]) fun h => by rw [returnAdjusting_frame]; exact h

/-! ### Every instruction -/

/-- Every instruction but the thirteen completes, as one of the families' operations. -/
theorem exec_ordinary (hi : isControl i = false) (s : State) : ∃ t, exec i s = .next t ∧ Ordinary i s t := by
  cases i with
  | oraIndx | oraBp | oraImm | tsy | oraAbs | oraIndy | oraIndz | oraBpx | oraAbsy | incAcc | inz | oraAbsx
  | andIndx | andBp | andImm | andAbs | andIndy | andIndz | andBpx | andAbsy | decAcc | dez | andAbsx | eorIndx | neg
  | eorBp | eorImm | taz | jmpAbs | eorAbs | eorIndy | eorIndz | eorBpx | eorAbsy | eorAbsx | tza | jmpAbsind | tba
  | jmpAbsindx | dey | txa | tya | txs | ldyImm | ldaIndx | ldxImm | ldzImm | ldyBp | ldaBp | ldxBp | tay | ldaImm
  | tax | ldzAbs | ldyAbs | ldaAbs | ldxAbs | ldaIndy | ldaIndz | ldyBpx | ldaBpx | ldxBpy | ldaAbsy | tsx | ldzAbsx
  | ldyAbsx | ldaAbsx | ldxAbsy | iny | dex | ldaIndspy | inx =>
    exact ⟨_, rfl, .of_registers rfl (.inl rfl) (.inl rfl)⟩
  | aslAcc | clc | rolAcc | sec | asrAcc | lsrAcc | rorAcc | cpyImm | cmpIndx | cpzImm | cpyBp | cmpBp | cmpImm
  | cpyAbs | cmpAbs | cmpIndy | cmpIndz | cpzBp | cmpBpx | cmpAbsy | cpzAbs | cmpAbsx | cpxImm | cpxBp | cpxAbs =>
    exact ⟨_, rfl, .of_registers rfl (.inl rfl) (.inr rfl)⟩
  | bitBp | bitAbs | bitBpx | bitAbsx | bitImm | clv =>
    exact ⟨_, rfl, .of_registers rfl (.inr rfl) (.inl rfl)⟩
  | adcIndx | adcBp | adcImm | adcAbs | adcIndy | adcIndz | adcBpx | adcAbsy | adcAbsx | sbcIndx | sbcBp | sbcImm
  | sbcAbs | sbcIndy | sbcIndz | sbcBpx | sbcAbsy | sbcAbsx =>
    exact ⟨_, rfl, .of_registers rfl (.inr rfl) (.inr rfl)⟩
  | bplRel | bmiRel | bvcRel | bvsRel | braRel | bccRel | bcsRel | bneRel | beqRel =>
    exact ⟨_, rfl, branchRel_ordinary ..⟩
  | bplRelw | bmiRelw | bvcRelw | bvsRelw | braRelw | bccRelw | bcsRelw | bneRelw | beqRelw =>
    exact ⟨_, rfl, branchRelw_ordinary ..⟩
  | bbr0 | bbr1 | bbr2 | bbr3 | bbr4 | bbr5 | bbr6 | bbr7 | bbs0 | bbs1 | bbs2 | bbs3 | bbs4 | bbs5 | bbs6 | bbs7 =>
    exact ⟨_, rfl, branchOnBit_ordinary ..⟩
  | stzBp | stzBpx | staIndx | staIndspy | styBp | staBp | stxBp | styAbsx | styAbs | staAbs | stxAbs | staIndy
  | staIndz | styBpx | staBpx | stxBpy | staAbsy | stxAbsy | stzAbs | staAbsx | stzAbsx =>
    exact ⟨_, rfl, storeTo_ordinary ..⟩
  | decBp | decAbs | decBpx | decAbsx | incBp | incAbs | incBpx | incAbsx =>
    exact ⟨_, rfl, modifyWith_mem_ordinary ..⟩
  | rmb0 | rmb1 | rmb2 | rmb3 | rmb4 | rmb5 | rmb6 | rmb7 | smb0 | smb1 | smb2 | smb3 | smb4 | smb5 | smb6 | smb7 =>
    exact ⟨_, rfl, modifyBpByte_ordinary ..⟩
  | tsbBp | tsbAbs | trbBp | trbAbs =>
    exact ⟨_, rfl, testAndModify_ordinary ..⟩
  | aslBp | aslAbs | aslBpx | aslAbsx | rolBp | rolAbs | rolBpx | rolAbsx | asrBp | lsrBp | lsrAbs | asrBpx | lsrBpx
  | lsrAbsx | rorBp | rorAbs | rorBpx | rorAbsx =>
    exact ⟨_, rfl, shiftWith_mem_ordinary rfl ..⟩
  | dew | inw =>
    exact ⟨_, rfl, modifyBpWord_ordinary ..⟩
  | asw | row =>
    exact ⟨_, rfl, shiftAbsWord_ordinary rfl ..⟩
  | php | pha | phy | phx | phz =>
    exact ⟨_, rfl, push8_ordinary ..⟩
  | phwImmw | phwAbs =>
    exact ⟨_, rfl, pushWord_ordinary ..⟩
  | pla | ply | plx | plz =>
    exact ⟨_, rfl, .of_stack 1 (by rw [State.pulled_frame]; rfl) (fun h => (State.inv_spAdd s 1).trans h)⟩
  | jsrAbs | jsrAbsind | jsrAbsindx | bsr =>
    exact ⟨_, rfl, callTo_ordinary ..⟩
  | rts =>
    exact ⟨_, rfl, returnFrom_ordinary ..⟩
  | rtsImm =>
    exact ⟨_, rfl, returnAdjusting_ordinary ..⟩
  | brk | cle | see | plp | tys | rti | cli | tab | map | sei | cld | eom | sed =>
    cases hi

/-- What an instruction can make of a state. -/
inductive Effect (s : State) : Instr → State → Prop
  | ordinary {i : Instr} {t : State} (hi : isControl i = false) (h : Ordinary i s t) : Effect s i t
  | tab : Effect s .tab { s with b := s.a, pc := s.pc + 1 }
  | tys : Effect s .tys { s with sph := s.y, pc := s.pc + 1 }
  | map : Effect s .map
      { s with mapState := mapLatch s.a s.x s.y s.z s.mapState, mapInhibit := true, pc := s.pc + 1 }
  | eom : Effect s .eom { s with mapInhibit := false, eomPrefix := true, pc := s.pc + 1 }
  | sed : Effect s .sed { s with p := { s.p with d := true }, pc := s.pc + 1 }
  | cld : Effect s .cld { s with p := { s.p with d := false }, pc := s.pc + 1 }
  | sei : Effect s .sei { s with p := { s.p with i := true }, pc := s.pc + 1 }
  | cli : Effect s .cli { s with p := { s.p with i := false }, pc := s.pc + 1 }
  | see : Effect s .see { s with p := { s.p with e := true }, pc := s.pc + 1 }
  | cle : Effect s .cle { s with p := { s.p with e := false }, pc := s.pc + 1 }
  | plp (v : Byte) : Effect s .plp
      { s with sph := (s.spAdd 1).sph, spl := (s.spAdd 1).spl, p := s.p.setP v, pc := s.pc + 1 }
  | rti (v : Byte) (pc : Addr) : Effect s .rti
      { s with sph := (s.spAdd 3).sph, spl := (s.spAdd 3).spl, p := s.p.setP v, pc := pc }
  | brk : Effect s .brk (s.entry (s.pc + 2) true 0xFFFE)

/-- Every instruction completes, with one of these effects. -/
theorem exec_completes (i : Instr) (s : State) : ∃ t, exec i s = .next t ∧ Effect s i t := by
  by_cases hi : isControl i = false
  · obtain ⟨t, hexec, ht⟩ := exec_ordinary hi s
    exact ⟨t, hexec, .ordinary hi ht⟩
  · cases i with
    | tab => exact ⟨_, rfl, .tab⟩
    | tys => exact ⟨_, rfl, .tys⟩
    | map => exact ⟨_, rfl, .map⟩
    | eom => exact ⟨_, rfl, .eom⟩
    | sed => exact ⟨_, rfl, .sed⟩
    | cld => exact ⟨_, rfl, .cld⟩
    | sei => exact ⟨_, rfl, .sei⟩
    | cli => exact ⟨_, rfl, .cli⟩
    | see => exact ⟨_, rfl, .see⟩
    | cle => exact ⟨_, rfl, .cle⟩
    | plp =>
      obtain ⟨-, -, -, -, hplp⟩ := pullsReadAboveTheStackPointer s
      exact ⟨_, hplp, .plp _⟩
    | rti => exact ⟨_, rtiRestoresFlagsAndProgramCounter s, .rti _ _⟩
    | brk => exact ⟨_, rfl, .brk⟩
    | _ => exact absurd rfl hi

/-- What `exec` answers is one of these effects. -/
theorem exec_effect (h : exec i s = .next t) : Effect s i t := by
  obtain ⟨u, hexec, hu⟩ := exec_completes i s
  obtain rfl := Host.Outcome.next.inj (hexec.symm.trans h)
  exact hu

/-! ### What every instruction keeps -/

theorem Effect.params (h : Effect s i t) : t.params = s.params := by
  cases h with
  | ordinary _ h => rw [h.frame]
  | brk => rw [State.entry_frame]
  | _ => rfl

theorem Effect.nmiPending (h : Effect s i t) : t.nmiPending = s.nmiPending := by
  cases h with
  | ordinary _ h => rw [h.frame]
  | brk => rw [State.entry_frame]
  | _ => rfl

theorem Effect.inv (h : Effect s i t) (hs : s.inv = true) : t.inv = true := by
  cases h with
  | ordinary _ h => exact h.inv hs
  | brk => exact State.inv_entry hs _ _ _
  | _ => exact hs

/-- An instruction that is not of the thirteen is none of them. -/
theorem ne_of_isControl {j : Instr} (hi : isControl i = false) (hj : isControl j = true) : i ≠ j := by
  rintro rfl
  rw [hi] at hj
  cases hj

end Effects

/-! ### The statements -/

/-- Settles O23: none of the four is in the frame of an ordinary instruction, and the thirteen say themselves. -/
theorem controlStateHasFewWriters : Obligations.ControlStateHasFewWriters := by
  intro i s t h
  cases exec_effect h with
  | ordinary hi h =>
    have hne {j : Instr} (hj : isControl j = true) : i ≠ j := ne_of_isControl hi hj
    rw [if_neg (hne (j := .tab) rfl), if_neg (hne (j := .map) rfl), if_neg (hne (j := .map) rfl),
      if_neg (hne (j := .eom) rfl), if_neg (hne (j := .see) rfl), if_neg (hne (j := .cle) rfl), h.frame]
    exact ⟨rfl, rfl, rfl, rfl⟩
  | brk =>
    rw [State.entry_frame]
    exact ⟨rfl, rfl, rfl, rfl⟩
  | _ => exact ⟨rfl, rfl, rfl, rfl⟩

/-- Settles O24: an ordinary instruction leaves D and I alone and writes V and C as its opcode says; of the thirteen,
those that change a flag are named. -/
theorem flagsDAndIAndVAndCHaveFewWriters : Obligations.FlagsDAndIAndVAndCHaveFewWriters := by
  intro i s t h
  have same {b : Bool} {q : Prop} (hne : b ≠ b) : q := absurd rfl hne
  cases exec_effect h with
  | ordinary _ h =>
    have hd : t.p.d = s.p.d := by rw [h.frame]
    have hint : t.p.i = s.p.i := by rw [h.frame]
    exact ⟨absurd hd, absurd hint,
      fun hne => List.contains_iff_mem.1 (h.overflow.resolve_left hne),
      fun hne => List.contains_iff_mem.1 (h.carry.resolve_left hne)⟩
  | brk =>
    rw [State.entry_frame]
    exact ⟨same, fun _ => by decide, same, same⟩
  | plp v => exact ⟨fun _ => by decide, fun _ => by decide, fun _ => by decide, fun _ => by decide⟩
  | rti v pc => exact ⟨fun _ => by decide, fun _ => by decide, fun _ => by decide, fun _ => by decide⟩
  | sed | cld => exact ⟨fun _ => by decide, same, same, same⟩
  | sei | cli => exact ⟨same, fun _ => by decide, same, same⟩
  | _ => exact ⟨same, same, same, same⟩

/-- Settles O25: with P.E 1 every move of the stack pointer leaves SPH alone. -/
theorem theStackStaysInItsPage : Obligations.TheStackStaysInItsPage := by
  intro i s t h he hne
  cases exec_effect h with
  | ordinary _ h => exact h.sph he
  | tys => exact absurd rfl hne
  | plp v => exact State.spAdd_sph_of_e he 1
  | rti v pc => exact State.spAdd_sph_of_e he 3
  | brk =>
    rw [State.entry_frame]
    exact State.spAdd_sph_of_e he (-3)
  | _ => rfl

end Sys2Proof.Machine
end

section
/-! Memory in its one canonical form (`20_memory.md` section 1). -/
namespace Sys2Proof.Machine

/-- Below the first entry nothing is listed. -/
theorem Memory.read_of_forall_lt {m : Memory} {k : Nat} (h : ∀ d ∈ m, k < d.1) : m.read k = unlistedByte := by
  cases m with
  | nil => rfl
  | cons c rest => rw [Memory.read_cons, if_pos (h c List.mem_cons_self)]

/-- The first entry of a canonical memory is read at its address. -/
theorem Memory.read_head (c : Host.Cell) (m : Memory) : Memory.read (c :: m) c.1 = c.2 := by
  rw [Memory.read_cons, if_neg (Nat.lt_irrefl _), if_pos rfl]

/-- No entry of a canonical memory that reads the same as another's lies below that one's first. -/
theorem Memory.head_le_of_read_eq {c d : Host.Cell} {m m' : Memory} (hwf : Memory.wf (c :: m) = true)
    (h : ∀ k, Memory.read (c :: m) k = Memory.read (d :: m') k) : d.1 ≤ c.1 := by
  obtain ⟨-, hne, -⟩ := (Memory.wf_cons c m).1 hwf
  by_contra hlt
  have hread := h c.1
  rw [Memory.read_head, Memory.read_cons, if_pos (Nat.not_le.1 hlt)] at hread
  exact hne hread

/-- Settles O10, by induction on the two lists: equal reads give equal first entries, and then equal reads of the
rests, which list nothing at or below those. -/
theorem memoriesThatReadTheSameAreTheSame : Obligations.MemoriesThatReadTheSameAreTheSame := by
  intro m
  induction m with
  | nil =>
    intro m' _ hwf' h
    cases m' with
    | nil => rfl
    | cons d rest' =>
      obtain ⟨-, hne, -⟩ := (Memory.wf_cons d rest').1 hwf'
      exact absurd ((h d.1).trans (Memory.read_head d rest')).symm hne
  | cons c rest ih =>
    intro m' hwf hwf' h
    obtain ⟨hlt, hne, hrest⟩ := (Memory.wf_cons c rest).1 hwf
    cases m' with
    | nil => exact absurd ((Memory.read_head c rest).symm.trans (h c.1)) hne
    | cons d rest' =>
      obtain ⟨hlt', -, hrest'⟩ := (Memory.wf_cons d rest').1 hwf'
      have haddr : c.1 = d.1 :=
        Nat.le_antisymm (Memory.head_le_of_read_eq hwf' fun k => (h k).symm) (Memory.head_le_of_read_eq hwf h)
      have hbyte : c.2 = d.2 := by
        have hread := h c.1
        rwa [Memory.read_head, haddr, Memory.read_head] at hread
      obtain rfl : c = d := Prod.ext haddr hbyte
      refine congrArg (c :: ·) (ih rest' hrest hrest' fun k => ?_)
      by_cases hk : k ≤ c.1
      · rw [Memory.read_of_forall_lt fun e he => Nat.lt_of_le_of_lt hk (hlt e he),
          Memory.read_of_forall_lt fun e he => Nat.lt_of_le_of_lt hk (hlt' e he)]
      · have hread := h k
        rwa [Memory.read_cons, Memory.read_cons, if_neg (by omega), if_neg (by omega), if_neg (by omega),
          if_neg (by omega)] at hread

end Sys2Proof.Machine
end

section
/-! The step of the machine (`30_encoding.md` rule R110, `60_exceptions.md` rules R504 to R509): what a step can be, and
the statements about every step. -/
namespace Sys2Proof.Machine

/-! ### One instruction (R110) -/

/-- The bytes fetched are an instruction whose opcode is the byte at the program counter (R101, R107). -/
theorem State.decode_fetchCode (s : State) :
    ∃ i rest, decode s.fetchCode = .ok (i, rest) ∧ i.opcode = s.fetchByte s.pc := by
  obtain ⟨mk, hmk, hrow⟩ := exists_row (s.fetchByte s.pc)
  refine ⟨_, _, decode_of_row hmk (le_of_eq ?_), hrow.opcode _ _⟩
  rw [List.length_map, List.length_range, lengthOfOpcode_of_row hmk]

/-- An instruction completes, and `eom_prefix` says whether it was EOM. -/
theorem instructionStep_of_decode {s t : State} {i : Instr} {rest : List Byte}
    (hdecode : decode s.fetchCode = .ok (i, rest)) (hexec : exec i s = .next t) :
    instructionStep s = .next (t.setEomPrefix (i.opcode == 0xEA)) := by
  simp only [instructionStep, hdecode, hexec, finishInstruction]

/-! ### Which step is taken (R504 to R507) -/

theorem step_of_reset {s : State} {r : ResetState} (h : s.currentInput = .reset r) :
    step s = .next (s.inputTaken.applyReset r) := by
  simp only [step, processorStep, h]

theorem step_of_signals {s : State} {irqLine nmiEvent : Bool} (h : s.currentInput = .signals irqLine nmiEvent) :
    step s = recognitionStep irqLine (s.inputTaken.latchNmi nmiEvent) := by
  simp only [step, processorStep, h]

theorem recognitionStep_of_some {s : State} {irqLine : Bool} {w : Interrupt} (h : s.recognised irqLine = some w) :
    recognitionStep irqLine s = .next (s.takeInterrupt w) := by
  simp only [recognitionStep, h]

theorem recognitionStep_of_none {s : State} {irqLine : Bool} (h : s.recognised irqLine = none) :
    recognitionStep irqLine s = instructionStep s := by
  simp only [recognitionStep, h]

/-- The masks allow an interrupt: MAP does not inhibit, and the step does not follow EOM unless the parameter allows
it (R506). -/
def State.allowsInterrupt (s : State) : Prop :=
  s.mapInhibit = false ∧ (s.eomPrefix = false ∨ s.params.eomPrefixInterruptible = true)

/-- Where the masks allow one, NMI comes first, then IRQ unless `P.I` masks it (R507). -/
theorem State.recognised_of_allows {s : State} (h : s.allowsInterrupt) (irqLine : Bool) :
    s.recognised irqLine =
      if s.nmiPending then some .nmi else if irqLine && !s.p.i then some .irq else none := by
  obtain ⟨hmap, heom⟩ := h
  have heom : (s.eomPrefix && !s.params.eomPrefixInterruptible) = false := by
    rcases heom with h | h <;> simp [h]
  simp [State.recognised, heom, hmap]

/-- Where the masks allow none, nothing is recognised. -/
theorem State.recognised_of_not_allows {s : State} (h : ¬s.allowsInterrupt) (irqLine : Bool) :
    s.recognised irqLine = none := by
  simp only [State.allowsInterrupt, not_and_or, not_or, Bool.not_eq_false, Bool.not_eq_true] at h
  rcases h with hmap | ⟨heom, hpar⟩
  · simp [State.recognised, hmap]
  · simp [State.recognised, heom, hpar]

/-- Neither the input nor the latch changes what the masks allow. -/
theorem State.allowsInterrupt_of_latched {s : State} {nmiEvent : Bool} :
    (s.inputTaken.latchNmi nmiEvent).allowsInterrupt ↔ s.allowsInterrupt := Iff.rfl

/-- What a step can make of a state: a reset, an interrupt entry, or an instruction. -/
inductive StepEffect (s : State) : State → Prop
  | reset (r : ResetState) (hin : s.currentInput = .reset r) : StepEffect s (s.inputTaken.applyReset r)
  | interrupt (irqLine nmiEvent : Bool) (w : Interrupt) (hin : s.currentInput = .signals irqLine nmiEvent)
      (hrec : (s.inputTaken.latchNmi nmiEvent).recognised irqLine = some w) :
      StepEffect s ((s.inputTaken.latchNmi nmiEvent).takeInterrupt w)
  | instruction (irqLine nmiEvent : Bool) (i : Instr) (t : State) (hin : s.currentInput = .signals irqLine nmiEvent)
      (hrec : (s.inputTaken.latchNmi nmiEvent).recognised irqLine = none) (hop : i.opcode = s.fetchByte s.pc)
      (heffect : Effect (s.inputTaken.latchNmi nmiEvent) i t) :
      StepEffect s (t.setEomPrefix (i.opcode == 0xEA))

/-- Every step completes, as one of the three. -/
theorem step_completes (s : State) : ∃ t, step s = .next t ∧ StepEffect s t := by
  cases hin : s.currentInput with
  | reset r => exact ⟨_, step_of_reset hin, .reset r hin⟩
  | signals irqLine nmiEvent =>
    rw [step_of_signals hin]
    cases hrec : (s.inputTaken.latchNmi nmiEvent).recognised irqLine with
    | some w => exact ⟨_, recognitionStep_of_some hrec, .interrupt irqLine nmiEvent w hin hrec⟩
    | none =>
      obtain ⟨i, rest, hdecode, hop⟩ := (s.inputTaken.latchNmi nmiEvent).decode_fetchCode
      obtain ⟨t, hexec, heffect⟩ := exec_completes i (s.inputTaken.latchNmi nmiEvent)
      rw [recognitionStep_of_none hrec, instructionStep_of_decode hdecode hexec]
      exact ⟨_, rfl, .instruction irqLine nmiEvent i t hin hrec hop heffect⟩

/-- What a step answers is one of the three. -/
theorem step_effect {s t : State} (h : step s = .next t) : StepEffect s t := by
  obtain ⟨u, hstep, hu⟩ := step_completes s
  obtain rfl := Host.Outcome.next.inj (hstep.symm.trans h)
  exact hu

/-! ### Every step -/

theorem State.inv_takeInterrupt {s : State} (h : s.inv = true) (w : Interrupt) : (s.takeInterrupt w).inv = true := by
  cases w with
  | nmi => exact State.inv_entry (s := s.setNmiPending false) h _ _ _
  | irq => exact State.inv_entry h _ _ _

theorem State.takeInterrupt_params (s : State) (w : Interrupt) : (s.takeInterrupt w).params = s.params := by
  cases w with
  | nmi =>
    rw [State.takeInterrupt, State.entry_frame]
    rfl
  | irq => rw [State.takeInterrupt, State.entry_frame]

theorem State.takeInterrupt_eomPrefix (s : State) (w : Interrupt) : (s.takeInterrupt w).eomPrefix = false := by
  cases w <;> rw [State.takeInterrupt, State.entry_frame]

/-- Settles O7: a reset leaves the memory alone, and entries and instructions keep the invariant. -/
theorem everyStepKeepsTheInvariant : Obligations.EveryStepKeepsTheInvariant := by
  intro s t hs h
  cases step_effect h with
  | reset r hin => exact hs
  | interrupt irqLine nmiEvent w hin hrec => exact State.inv_takeInterrupt (s := s.inputTaken.latchNmi nmiEvent) hs w
  | instruction irqLine nmiEvent i u hin hrec hop heffect => exact heffect.inv hs

/-- Settles O8: nothing is listed in memory after reset, and the defaults are legal. -/
theorem resetMeetsTheInvariant : Obligations.ResetMeetsTheInvariant := rfl

/-- A run goes on from the next state. -/
theorem run_succ_of_step {M : Host.Core} {s t : M.State} (h : M.step s = .next t) (k : Nat) :
    M.run (k + 1) s = M.run k t := by
  simp only [Host.Core.run, h]

/-- Settles O9, by induction on the number of steps: each completes. -/
theorem theMachineIsNeverStuck : Obligations.TheMachineIsNeverStuck := by
  intro s k
  induction k generalizing s with
  | zero => exact ⟨s, rfl⟩
  | succ k ih =>
    obtain ⟨t, hstep, -⟩ := step_completes s
    obtain ⟨u, hrun⟩ := ih t
    exact ⟨u, (run_succ_of_step (M := core) hstep k).trans hrun⟩

/-- Settles O11: no reset, entry or instruction writes the parameters. -/
theorem noStepChangesTheParameters : Obligations.NoStepChangesTheParameters := by
  intro s t h
  cases step_effect h with
  | reset r hin => rfl
  | interrupt irqLine nmiEvent w hin hrec => exact State.takeInterrupt_params _ w
  | instruction irqLine nmiEvent i u hin hrec hop heffect => exact heffect.params

/-- Settles O16: an instruction keeps the latch, so it was a reset, or the masks allowed an interrupt. -/
theorem anNmiEventIsNotLost : Obligations.AnNmiEventIsNotLost := by
  intro s t h hnmi ht
  cases step_effect h with
  | reset r hin => exact .inl ⟨r, hin⟩
  | interrupt irqLine nmiEvent w hin hrec =>
    right
    by_contra hallows
    rw [State.recognised_of_not_allows (mt State.allowsInterrupt_of_latched.1 hallows)] at hrec
    cases hrec
  | instruction irqLine nmiEvent i u hin hrec hop heffect =>
    have hlatched : (s.nmiPending || nmiEvent) = true := by
      rcases hnmi with hpending | ⟨irq, hsignal⟩
      · rw [hpending, Bool.true_or]
      · cases hin.symm.trans hsignal
        exact Bool.or_true _
    have hkept : u.nmiPending = (s.nmiPending || nmiEvent) := heffect.nmiPending
    cases hlatched.symm.trans (hkept.symm.trans ht)

/-- Settles O17: an entry clears the mark, and an instruction sets it exactly when its opcode is EOM's. -/
theorem theEomMarkLastsOneStep : Obligations.TheEomMarkLastsOneStep := by
  intro s t irqLine nmiEvent hin h
  cases step_effect h with
  | reset r hin' => cases hin.symm.trans hin'
  | interrupt irqLine' nmiEvent' w hin' hrec =>
    cases hin.symm.trans hin'
    rw [State.takeInterrupt_eomPrefix, hrec]
    simp
  | instruction irqLine' nmiEvent' i u hin' hrec hop heffect =>
    cases hin.symm.trans hin'
    rw [State.setEomPrefix_eomPrefix, hop, beq_iff_eq]
    exact (and_iff_right hrec).symm

/-! ### Recognised interrupts (R506 to R509) -/

/-- An entry once this step's input is taken, by the stack of the state before: the frame and the bytes written. -/
theorem State.entry_after_input (s : State) (inputs : List EnvInput) (pending : Bool) (ra : Addr) (brk : Bool)
    (vector : Addr) :
    let t := ({ s with inputs := inputs, nmiPending := pending } : State).entry ra brk vector
    t = { s with
      sph := (s.spAdd (-3)).sph, spl := (s.spAdd (-3)).spl, p := { s.p with i := true }, eomPrefix := false
      nmiPending := pending, inputs := inputs
      pc := wordOf (t.readByte (vector + 1)) (t.readByte vector), mem := t.mem } ∧
    s.wroteOnly t
      [(s.progCell .write s.sp, hiByte ra), (s.progCell .write (s.spAdd (-1)).sp, loByte ra),
        (s.progCell .write (s.spAdd (-2)).sp, s.p.pbyte brk)] := by
  intro t
  have hmoved (k : Addr) := State.spAdd_congr (s := s) (t := { s with inputs := inputs, nmiPending := pending }) rfl rfl
    rfl k
  have hsp (k : Addr) :
      (({ s with inputs := inputs, nmiPending := pending } : State).spAdd k).sp = (s.spAdd k).sp := by
    obtain ⟨hsph, hspl⟩ := hmoved k
    rw [State.sp, State.sp, hsph, hspl]
  obtain ⟨hsph, hspl⟩ := hmoved (-3)
  have hframe := State.entry_frame { s with inputs := inputs, nmiPending := pending } ra brk vector
  have hwrote := State.entry_wroteOnly { s with inputs := inputs, nmiPending := pending } ra brk vector
  rw [hsph, hspl] at hframe
  rw [hsp, hsp] at hwrote
  exact ⟨hframe, hwrote⟩

/-- Settles O14: NMI is first in the order of recognition, and its entry clears the latch. -/
theorem nmiIsTakenBeforeAnythingElse : Obligations.NmiIsTakenBeforeAnythingElse := by
  intro s irqLine nmiEvent hin hnmi hmap heom
  have hrec : (s.inputTaken.latchNmi nmiEvent).recognised irqLine = some .nmi := by
    rw [State.recognised_of_allows (State.allowsInterrupt_of_latched.2 ⟨hmap, heom⟩)]
    exact if_pos hnmi
  have hstep := (step_of_signals hin).trans (recognitionStep_of_some hrec)
  exact ⟨_, hstep, State.entry_after_input s s.inputs.tail false s.pc false nmiVector⟩

/-- Settles O15: with no NMI latched the IRQ line is next, and `P.I` does not mask it. -/
theorem irqIsTakenWhenNothingMasksIt : Obligations.IrqIsTakenWhenNothingMasksIt := by
  intro s hin hnmi hi hmap heom
  have hlatched : s.inputTaken.latchNmi false = { s with inputs := s.inputs.tail } := by
    rw [State.latchNmi, Bool.or_false]
    rfl
  have hrec : (s.inputTaken.latchNmi false).recognised true = some .irq := by
    rw [State.recognised_of_allows (State.allowsInterrupt_of_latched.2 ⟨hmap, heom⟩), hlatched]
    simp [hnmi, hi]
  have hstep := (step_of_signals hin).trans (recognitionStep_of_some hrec)
  rw [hlatched] at hstep
  exact ⟨_, hstep, State.entry_after_input s s.inputs.tail s.nmiPending s.pc false irqVector⟩

/-- Settles O6: nothing is recognised, so the step is the instruction decoded. -/
theorem stepRunsTheDecodedInstruction : Obligations.StepRunsTheDecodedInstruction := by
  intro s t irqLine nmiEvent i rest hin hmask hdecode hexec
  have hrec : (s.inputTaken.latchNmi nmiEvent).recognised irqLine = none := by
    by_cases hallows : s.allowsInterrupt
    · obtain ⟨hmap, heom⟩ := id hallows
      rw [State.recognised_of_allows (State.allowsInterrupt_of_latched.2 hallows)]
      rcases hmask with ⟨heom', hpar⟩ | hmap' | ⟨hnmi, hirq⟩
      · simp [heom', hpar] at heom
      · exact absurd (hmap.symm.trans hmap') Bool.false_ne_true
      · have hline : (irqLine && !s.p.i) = false := by rcases hirq with h | h <;> simp [h]
        exact (if_neg (ne_true_of_eq_false hnmi)).trans (if_neg (ne_true_of_eq_false hline))
    · exact State.recognised_of_not_allows (mt State.allowsInterrupt_of_latched.1 hallows) irqLine
  have hinstr := instructionStep_of_decode (s := s.inputTaken.latchNmi nmiEvent) hdecode hexec
  exact ((step_of_signals hin).trans (recognitionStep_of_none hrec)).trans hinstr

/-- Settles O12: the reset event, by definition; its program counter is read through the reset map. -/
theorem resetEventSetsTheResetValues : Obligations.ResetEventSetsTheResetValues := fun _ _ hin =>
  ⟨_, step_of_reset hin, rfl⟩

/-- Settles O13: the reset state, evaluated. -/
theorem theResetStateHoldsTheResetValues : Obligations.TheResetStateHoldsTheResetValues :=
  ⟨rfl, rfl, rfl, rfl, rfl, rfl, rfl, rfl, rfl, rfl, rfl, rfl, rfl, rfl, rfl, rfl, rfl, rfl, rfl, rfl⟩

end Sys2Proof.Machine
end
